-- ==== Sys2Proof/Word.lean ====
section
/-! DEFINITION. The bit widths of the block's data (00_scope.md R10). -/

namespace Sys2Proof

/-- A transport byte, a channel value or an 8-bit field of a token word (R10). -/
abbrev Byte := BitVec 8

/-- A symbol: four transport bits, bit 3 sent first (R10, R77). -/
abbrev Nibble := BitVec 4

/-- The 16-bit symbol accumulator (R10, R29). -/
abbrev Acc := BitVec 16

/-- A latched colour: red in bits 23..16, green in 15..8, blue in 7..0 (R28). -/
abbrev Rgb := BitVec 24

/-- A host token word (R71). -/
abbrev Token := BitVec 32

end Sys2Proof
end

