-- ==== Sys2Proof/Config.lean ====
section
/-! DEFINITION. What is fixed for the block but left open by the spec, and the transport's answers,
which the block does not choose (R6, R7, R9, R51, R52). -/

namespace Sys2Proof

/-- PARAMETER `E` (R9, D20, log 3): which codes stand for values of the transport's error type. It has no
body, so whatever is proved holds for every type that the codes can number, of one value or of many. -/
opaque Config.isError : Nat → Bool

/-- The transport's error type `E` (R9), open but for having a value, code 0 (log 3). The block hands a
value on and never builds, inspects or compares one. -/
structure TransportErr where
  code : Nat
  listed : code = 0 ∨ Config.isError code = true
  deriving DecidableEq, Repr

/-- The value `E` is taken to have (log 3). -/
def TransportErr.known : TransportErr := ⟨0, .inl rfl⟩

/-- The answers of the transport to one `TrySend` attempt (R51). -/
inductive SendAnswer where
  | ok
  | wouldBlock
  | err (e : TransportErr)
  deriving DecidableEq, Repr, Inhabited

/-- The answers of the transport to one `TryRecv` attempt (R52). -/
inductive RecvAnswer where
  | value (v : Byte)
  | wouldBlock
  | err (e : TransportErr)
  deriving DecidableEq, Repr, Inhabited

/-- `IDLE_HIGH` (R6, R32): a strap fixed when the block is instantiated, either value legal, no part
of the state. It has no body, so whatever is proved holds for both values (log 1). -/
opaque Config.idleHigh : Bool

/-- FREE VALUE (log 2): the transport's answer to a send attempt that no scripted answer covers,
`n` being the count of earlier free draws. R51: "a draw by the transport ... under no law". -/
opaque Config.freeSend : Nat → SendAnswer

/-- FREE VALUE (log 2): the transport's answer to a receive attempt that no scripted answer covers
(R52: "a draw by the transport under no law"). -/
opaque Config.freeRecv : Nat → RecvAnswer

/-- `FLUSH_LEN` (R7): a constant of this hardware, not a parameter. -/
def Config.flushLen : Nat := 20

end Sys2Proof
end

