-- ==== Sys2Proof/Syntax.lean ====
section
/-! DEFINITION. The rows of the opcode table as one inductive, the words that stand for them, and the
lines of the assembler's text (R70 to R85). -/

namespace Sys2Proof

/-- One constructor per row of the opcode table. The first three are the host tokens (R70); the next
two are the symbols shifted into the accumulator (R77); the last five are the bytes the block offers
to the transport (R79, R81). Operands are 8-bit fields, so every term is in range (R73). -/
inductive Instr where
  /-- START: begin a write (R132). -/
  | start
  /-- COLOR r, g, b: encode one colour (R134). -/
  | color (r g b : Byte)
  /-- END: the colour sequence is exhausted (R136). -/
  | finish
  /-- SYM0: the symbol 1000 of a channel bit 0 (R77). -/
  | sym0
  /-- SYM1: the symbol 1100 of a channel bit 1 (R77). -/
  | sym1
  /-- TB00: the transport byte 0x88 of the bit pair (0, 0) (R79). -/
  | tb00
  /-- TB01: the transport byte 0x8C of the bit pair (0, 1) (R79). -/
  | tb01
  /-- TB10: the transport byte 0xC8 of the bit pair (1, 0) (R79). -/
  | tb10
  /-- TB11: the transport byte 0xCC of the bit pair (1, 1) (R79). -/
  | tb11
  /-- FLUSH: the transport byte 0x00 of both flush runs (R81). -/
  | flush
  deriving DecidableEq, Repr

/-- A word of one of the three formats of the opcode table: TOKEN32, TBYTE8, SYMBOL4. The formats are
different kinds of word (the token port, the transport port, the accumulator's input), so the byte
0x00 is no token and the token 0x00000000 is no byte. -/
inductive TableWord where
  | token (w : Token)
  | tbyte (b : Byte)
  | symbol (n : Nibble)
  deriving DecidableEq, Repr

/-- A line of the assembler's text before its operands are checked (R84, R85). -/
inductive SourceLine where
  /-- A line with no token on it (log 16). -/
  | blank
  | start
  | color (r g b : Nat)
  | finish
  | frame (cs : List (Nat × Nat × Nat))
  deriving DecidableEq, Repr

end Sys2Proof
end

