-- ==== Sys2Proof/Decode.lean ====
section
/-! DEFINITION. The decoder, total on every word of every format and refusing by name (R74, R75, R77,
R79, R81), then the encoder. -/

namespace Sys2Proof

/-- Why a word stands for no row of the opcode table. The first three are the reserved token words of
R74; the others are words of the two output formats that the tables R77, R79 and R81 do not list. -/
inductive Reserved where
  | opcode (op : Byte)
  | startPayload (p : Rgb)
  | endPayload (p : Rgb)
  | transportByte (b : Byte)
  | symbol (n : Nibble)
  deriving DecidableEq, Repr

/-- The field `OP` of a token word, bits 31..24 (R71). -/
def tokenOp (w : Token) : Byte := w.extractLsb' 24 8

/-- The payload of a token word, bits 23..0 (R72). -/
def tokenPayload (w : Token) : Rgb := w.extractLsb' 0 24

/-- The red field, bits 23..16 (R71, R73). -/
def tokenRed (w : Token) : Byte := w.extractLsb' 16 8

/-- The green field, bits 15..8 (R71, R73). -/
def tokenGreen (w : Token) : Byte := w.extractLsb' 8 8

/-- The blue field, bits 7..0 (R71, R73). -/
def tokenBlue (w : Token) : Byte := w.extractLsb' 0 8

/-- The token decoder (R72, R75). -/
def decodeToken (w : Token) : Except Reserved Instr :=
  if tokenOp w = 0x01 then
    if tokenPayload w = 0 then .ok .start else .error (.startPayload (tokenPayload w))
  else if tokenOp w = 0x02 then
    .ok (.color (tokenRed w) (tokenGreen w) (tokenBlue w))
  else if tokenOp w = 0x03 then
    if tokenPayload w = 0 then .ok .finish else .error (.endPayload (tokenPayload w))
  else .error (.opcode (tokenOp w))

/-- The transport bytes of the tables R79 and R81. -/
def decodeByte (b : Byte) : Except Reserved Instr :=
  if b = 0x88 then .ok .tb00
  else if b = 0x8C then .ok .tb01
  else if b = 0xC8 then .ok .tb10
  else if b = 0xCC then .ok .tb11
  else if b = 0x00 then .ok .flush
  else .error (.transportByte b)

/-- The symbols of the table R77. -/
def decodeSymbol (n : Nibble) : Except Reserved Instr :=
  if n = 0x8 then .ok .sym0
  else if n = 0xC then .ok .sym1
  else .error (.symbol n)

/-- The decoder of the three formats. -/
def decode : TableWord → Except Reserved Instr
  | .token w => decodeToken w
  | .tbyte b => decodeByte b
  | .symbol n => decodeSymbol n

/-- The token word with opcode `op` and payload `p` (R71). -/
def tokenWord (op : Byte) (p : Rgb) : Token := (op.setWidth 32 <<< 24) ||| p.setWidth 32

/-- The payload `{R, G, B}` of a COLOR token, red in the high byte (R72). -/
def colourPayload (r g b : Byte) : Rgb :=
  (r.setWidth 24 <<< 16) ||| (g.setWidth 24 <<< 8) ||| b.setWidth 24

/-- The word of an instruction, from the tables R72, R77, R79 and R81. -/
def encode : Instr → TableWord
  | .start => .token (tokenWord 0x01 0)
  | .color r g b => .token (tokenWord 0x02 (colourPayload r g b))
  | .finish => .token (tokenWord 0x03 0)
  | .sym0 => .symbol 0x8
  | .sym1 => .symbol 0xC
  | .tb00 => .tbyte 0x88
  | .tb01 => .tbyte 0x8C
  | .tb10 => .tbyte 0xC8
  | .tb11 => .tbyte 0xCC
  | .flush => .tbyte 0x00

/-- The token word of an instruction, where it is a host token. -/
def encodeToken (i : Instr) : Option Token :=
  match encode i with
  | .token w => some w
  | .tbyte _ => none
  | .symbol _ => none

/-- The decoder's answer without the reason of a refusal. -/
def decode? (w : TableWord) : Option Instr :=
  match decode w with
  | .ok i => some i
  | .error _ => none

/-- The word that a row's `nbits` bits `w` make. A row of more than 8 bits is a token word. A shorter
one is a transport byte where R79 or R81 lists it, and else a 4-bit symbol where its upper bits are 0
(the table's 4-bit rows arrive in one byte). -/
def tableWord (nbits w : Nat) : TableWord :=
  if nbits ≤ 8 then
    match decodeByte (BitVec.ofNat 8 w) with
    | .ok _ => .tbyte (BitVec.ofNat 8 w)
    | .error _ =>
      if w < 16 then .symbol (BitVec.ofNat 4 w) else .tbyte (BitVec.ofNat 8 w)
  else .token (BitVec.ofNat 32 w)

/-- What the decoder reads from the `nbits` bits `w` of a row of the opcode table. -/
def decodeTableWord (nbits w : Nat) : Option Instr := decode? (tableWord nbits w)

end Sys2Proof
end

