-- ==== Sys2Proof/Machine/State.lean ====
section
/-! DEFINITION. The state of the block (R21), the ports it meets the outside through (R50), the ways a
step can stop, and the state after reset (R190). -/

namespace Sys2Proof.Machine

/-- `PHASE` (R22). -/
inductive Phase where
  /-- IDLE: no write in progress. -/
  | idle
  /-- PREFLUSH: the optional pre-frame flush is running. -/
  | preflush
  /-- WAIT: the block waits for the next colour or the end of the sequence. -/
  | wait
  /-- ENC: the 12 bytes of one colour are being emitted. -/
  | enc
  /-- FLUSH: the end-of-frame flush is running. -/
  | flush
  deriving DecidableEq, Repr

/-- `IO`: the next transport operation of the current byte slot (R23). -/
inductive Io where
  | send
  | recv
  deriving DecidableEq, Repr

/-- `STATUS`, the status port (R31). -/
inductive Status where
  /-- NONE: no write has been started since reset. -/
  | none
  /-- BUSY: a write is in progress. -/
  | busy
  /-- OK: the last write completed. -/
  | ok
  /-- ERR(e): the last write was aborted by the transport's hard error `e`. -/
  | err (e : TransportErr)
  deriving DecidableEq, Repr

/-- One observable event (R15): a token accepted, a send attempt with its byte and answer, a receive
attempt with its answer. -/
inductive Event where
  | accept (i : Instr)
  | send (b : Byte) (a : SendAnswer)
  | recv (a : RecvAnswer)
  deriving DecidableEq, Repr

/-- The block. The first ten fields are R21's. The rest are the model's own: the outside's inputs, the
record of what was observed at the ports, the counter of free draws, and a bench port. -/
structure State where
  /-- `PHASE` (R22). -/
  phase : Phase
  /-- `IO` (R23). -/
  io : Io
  /-- `CIDX` (R24): 0 red, 1 green, 2 blue. -/
  cidx : BitVec 2
  /-- `HALF` (R25). -/
  half : BitVec 1
  /-- `BSEL` (R26). -/
  bsel : BitVec 1
  /-- `CHAN` (R27). -/
  chan : Byte
  /-- `RGB` (R28). -/
  rgb : Rgb
  /-- `ACC` (R29). -/
  acc : Acc
  /-- `FCNT` (R30). -/
  fcnt : BitVec 5
  /-- `STATUS` (R31). -/
  status : Status
  /-- The token port (R71): the words the host offers, the one on the port first; empty while the host
  offers nothing (log 4). -/
  tokenPort : List Token
  /-- The transport's answers to the coming send attempts, the next one first (log 2). -/
  sendScript : List SendAnswer
  /-- The transport's answers to the coming receive attempts, the next one first (log 2). -/
  recvScript : List RecvAnswer
  /-- How many answers were drawn free because the script had none (log 2). -/
  draws : Nat
  /-- What was observed at the ports, oldest first (R15, log 6). -/
  trace : List Event
  /-- A bench port of the model's own (log 5): one symbol put to the accumulator's shift input outside
  a frame. Reset leaves it empty and no step fills it. -/
  symPort : Option Nibble
  deriving DecidableEq, Repr

/-- Reasons to stop with a fault. There is none: R14, "A **fault** is not used. The block has no fault
of its own". -/
inductive Fault where
  deriving DecidableEq, Repr

/-- Reasons for which the model gives no meaning (R14, R74, R139). All are safe: a refusal ends the run,
so nothing can be proved of what a physical block does next. -/
inductive Refusal where
  /-- Raised by the dispatch for an instruction that has no meaning yet; safe. No arm does. -/
  | notModelled (mnemonic : String)
  /-- Raised by START offered while `PHASE = WAIT` (R139); safe. -/
  | startInWait
  /-- Raised by COLOR offered while `PHASE = IDLE` (R139); safe. -/
  | colorInIdle
  /-- Raised by END offered while `PHASE = IDLE` (R139); safe. -/
  | endInIdle
  /-- Raised by the step on a reserved word of the token port (R74, R139) or a nibble of the bench
  port that is no symbol (R77); safe. -/
  | reservedWord (why : Reserved)
  /-- Raised by a transport byte's meaning where the block has no send attempt of that byte to make
  (R100's enabling condition fails); safe. No step of the block runs one there. -/
  | notEnabled
  deriving DecidableEq, Repr

/-- The answer of one step of this machine. -/
abbrev Result := Host.Outcome State Fault Refusal

/-- R190: `PHASE = IDLE`, `STATUS = NONE`. The spec leaves the other eight registers unspecified;
the values here are DESIGN CHOICE (log 7). Nothing is offered or scripted. -/
def State.reset : State where
  phase := .idle
  io := .send
  cidx := 0
  half := 0
  bsel := 0
  chan := 0
  rgb := 0
  acc := 0
  fcnt := 0
  status := .none
  tokenPort := []
  sendScript := []
  recvScript := []
  draws := 0
  trace := []
  symPort := none

end Sys2Proof.Machine
end

