-- ==== Sys2Proof/Machine/Flags.lean ====
section
/-! DEFINITION. The block has no condition codes (R37). Its only status output is `STATUS` (R31), and
these are the only three changes of it besides reset. -/

namespace Sys2Proof.Machine

/-- An accepted START: `STATUS <- BUSY` (R132). -/
def State.markBusy (s : State) : State := { s with status := .busy }

/-- A completed write: `STATUS <- OK` (R138). -/
def State.markOk (s : State) : State := { s with status := .ok }

/-- An aborted write: `STATUS <- ERR(e)`, `e` unchanged (R174). -/
def State.markErr (e : TransportErr) (s : State) : State := { s with status := .err e }

end Sys2Proof.Machine
end

