-- ==== Sys2Proof/Machine/Operands.lean ====
section
/-! DEFINITION. The operands of the block's operations: channel selection, bit groups, symbols, the
accumulator's value and the current output byte (R24 to R33, R77 to R83). -/

namespace Sys2Proof.Machine

/-- `ch(RGB, i)` (R27, R102): red, green, blue for `i` = 0, 1, 2. `CIDX` is never 3 (R24, log 14). -/
def channel (rgb : Rgb) (i : BitVec 2) : Byte :=
  if i = 0 then rgb.extractLsb' 16 8
  else if i = 1 then rgb.extractLsb' 8 8
  else rgb.extractLsb' 0 8

/-- The four channel bits of group `h`, first one first: `v[7 - 4h - i]` for `i` = 0..3 (R78). -/
def groupBits (v : Byte) (h : BitVec 1) : List Bool :=
  if h = 0 then [v.getLsbD 7, v.getLsbD 6, v.getLsbD 5, v.getLsbD 4]
  else [v.getLsbD 3, v.getLsbD 2, v.getLsbD 1, v.getLsbD 0]

/-- The symbol of a channel bit (R77): 1000 for 0, 1100 for 1. -/
def nib (bit : Bool) : Nibble := if bit then 0xC else 0x8

/-- One turn of R78's loop: `a := ((a << 4) | zext_16(nib(bit)))[15:0]`. -/
def shiftIn (a : Acc) (bit : Bool) : Acc := (a <<< 4) ||| (nib bit).setWidth 16

/-- `BuildAcc(v, h)` (R78). -/
def buildAcc (v : Byte) (h : BitVec 1) : Acc := (groupBits v h).foldl shiftIn 0

/-- `ACC[15:8]` (R26). -/
def accHigh (a : Acc) : Byte := a.extractLsb' 8 8

/-- `ACC[7:0]` (R26). -/
def accLow (a : Acc) : Byte := a.extractLsb' 0 8

/-- `TB(p, q)`, the transport byte of two consecutive channel bits (R79). -/
def transportByte (p q : Bool) : Byte := nib p ++ nib q

/-- The flush byte (R81). -/
def flushByte : Byte := 0x00

/-- `encode(v)`: the four bytes of one channel value, in sending order, high byte of each accumulator
first (R80, R56, log 10). -/
def encodeChannel (v : Byte) : List Byte :=
  [accHigh (buildAcc v 0), accLow (buildAcc v 0), accHigh (buildAcc v 1), accLow (buildAcc v 1)]

/-- The channel bit of a symbol nibble, bit 2 of it; only 0x8 and 0xC are symbols (R83). -/
def symbolBit (n : Nibble) : Option Bool :=
  if n = 0x8 ∨ n = 0xC then some (n.getLsbD 2) else none

/-- The two channel bits of a transport byte (R83). -/
def byteBits (b : Byte) : Option (Bool × Bool) :=
  match symbolBit (b.extractLsb' 4 4), symbolBit (b.extractLsb' 0 4) with
  | some p, some q => some (p, q)
  | _, _ => none

/-- The channel value whose bits 7 to 0 are given, first one first (R83). -/
def ofBits (p q : Bool) : BitVec 2 := BitVec.ofBool p ++ BitVec.ofBool q

/-- R83's decoding of four transport bytes. -/
def decodeChannel (t0 t1 t2 t3 : Byte) : Option Byte :=
  match byteBits t0, byteBits t1, byteBits t2, byteBits t3 with
  | some (a, b), some (c, d), some (e, f), some (g, h) =>
    some (((ofBits a b ++ ofBits c d) ++ ofBits e f) ++ ofBits g h)
  | _, _, _, _ => none

/-- R83's decoding of a run of transport bytes, four to a channel value. -/
def decodeStream : List Byte → Option (List Byte)
  | [] => some []
  | t0 :: t1 :: t2 :: t3 :: ts =>
    match decodeChannel t0 t1 t2 t3, decodeStream ts with
    | some v, some vs => some (v :: vs)
    | _, _ => none
  | _ => none

/-- The phases in which the block makes transport attempts (R100, R130). -/
def State.sending (s : State) : Bool :=
  match s.phase with
  | .preflush | .enc | .flush => true
  | .idle | .wait => false

/-- `OUT`, the current output byte, defined in the three sending phases (R33). -/
def State.out (s : State) : Option Byte :=
  match s.phase with
  | .preflush | .flush => some flushByte
  | .enc => some (if s.bsel = 0 then accHigh s.acc else accLow s.acc)
  | .idle | .wait => none

/-- `TOKEN_READY` (R34). -/
def State.tokenReady (s : State) : Bool := s.phase = .idle || s.phase = .wait

end Sys2Proof.Machine
end

