-- ==== Sys2Proof/Machine/Ops.lean ====
section
/-! DEFINITION. The operations the meanings share: the transport primitives (R51, R52), the abort (R174),
the send attempt (R100), the accumulator load (R103), token acceptance (R131), and what the outside can
do to the block between two steps (R131, R192). The block has no return from an abort (R176). -/

namespace Sys2Proof.Machine

/-- The transport's answer to the next send attempt (R51): the script's, else a free value. -/
def State.sendAnswer (s : State) : SendAnswer :=
  match s.sendScript with
  | a :: _ => a
  | [] => Config.freeSend s.draws

/-- The transport's answer to the next receive attempt (R52): the script's, else a free value. -/
def State.recvAnswer (s : State) : RecvAnswer :=
  match s.recvScript with
  | a :: _ => a
  | [] => Config.freeRecv s.draws

/-- What one `TrySend(b)` attempt itself does: it is observed with its answer, and nothing of R21's
fields changes (R51). -/
def State.afterSend (b : Byte) (s : State) : State :=
  { s with
    sendScript := s.sendScript.tail
    draws := if s.sendScript = [] then s.draws + 1 else s.draws
    trace := s.trace ++ [.send b s.sendAnswer] }

/-- What one `TryRecv()` attempt itself does (R52). -/
def State.afterRecv (s : State) : State :=
  { s with
    recvScript := s.recvScript.tail
    draws := if s.recvScript = [] then s.draws + 1 else s.draws
    trace := s.trace ++ [.recv s.recvAnswer] }

/-- `raise TransportError(e)` (R174): the error is kept in `STATUS`, the write is over, and no other
register is written. This is the block's one exception; nothing returns from it (R176). -/
def raiseTransportError (e : TransportErr) (s : State) : State :=
  { s.markErr e with phase := .idle }

/-- SEND-ATTEMPT of byte `b` (R100). -/
def sendAttempt (b : Byte) (s : State) : State :=
  match s.sendAnswer with
  | .wouldBlock => s.afterSend b
  | .ok => { s.afterSend b with io := .recv }
  | .err e => raiseTransportError e (s.afterSend b)

/-- The send attempt of a given byte where the block has it to make: R100's enabling condition, with
`b` the current output byte. Elsewhere there is no such operation (log 9). -/
def sendByte (b : Byte) (s : State) : Result :=
  if s.io = .send ∧ s.out = some b then .next (sendAttempt b s) else .refused .notEnabled

/-- Start the 4-bit group `h` of channel value `v`: BUILD-ACC (R103) with the first of its two bytes
next. -/
def loadGroup (v : Byte) (h : BitVec 1) (s : State) : State :=
  { s with half := h, acc := buildAcc v h, bsel := 0, io := .send }

/-- Start channel `i` of the latched colour (R102, R134). -/
def loadChannel (i : BitVec 2) (rgb : Rgb) (s : State) : State :=
  { loadGroup (channel rgb i) 0 s with cidx := i, chan := channel rgb i }

/-- Latch a colour and start its red channel (R134). -/
def latchColour (r g b : Byte) (s : State) : State :=
  { loadChannel 0 (colourPayload r g b) s with rgb := colourPayload r g b, phase := .enc }

/-- Start a flush run in phase `p` (R132, R136). -/
def startFlush (p : Phase) (s : State) : State := { s with phase := p, fcnt := 0, io := .send }

/-- A token is taken (R131): it is observed. Taking the word off the port is the step's part. -/
def State.accept (i : Instr) (s : State) : State := { s with trace := s.trace ++ [.accept i] }

/-- INPUT, between two steps: the host puts further words on the token port (R131). -/
def State.offer (ws : List Token) (s : State) : State := { s with tokenPort := s.tokenPort ++ ws }

/-- INPUT, between two steps: reset (R190, R192). It ends a write at once with no trailer and makes no
transport operation (R191). The outside and the record of the past stay. The eight registers R190 leaves
unspecified take the values of `State.reset` (log 7). -/
def State.hardReset (s : State) : State :=
  { State.reset with
    tokenPort := s.tokenPort
    sendScript := s.sendScript
    recvScript := s.recvScript
    draws := s.draws
    trace := s.trace }

end Sys2Proof.Machine
end

