-- ==== Sys2Proof/Machine/HostToken.lean ====
section
/-! DEFINITION. The meanings of the three host tokens (R132, R134, R136). A token in a busy phase is
held, not consumed (R131, log 4); one in the wrong ready phase is refused (R139, log 13). -/

namespace Sys2Proof.Machine

/-- The effect of an accepted START for a block instantiated with `idleHigh` (R132). -/
def startWrite (idleHigh : Bool) (s : State) : State :=
  if idleHigh then startFlush .preflush s.markBusy else { s.markBusy with phase := .wait }

/-- START (R132). -/
def execStart (s : State) : Result :=
  match s.phase with
  | .idle => .next (startWrite Config.idleHigh (s.accept .start))
  | .wait => .refused .startInWait
  | .preflush | .enc | .flush => .next s

/-- COLOR r, g, b (R134). -/
def execColor (r g b : Byte) (s : State) : Result :=
  match s.phase with
  | .wait => .next (latchColour r g b (s.accept (.color r g b)))
  | .idle => .refused .colorInIdle
  | .preflush | .enc | .flush => .next s

/-- END (R136). -/
def execFinish (s : State) : Result :=
  match s.phase with
  | .wait => .next (startFlush .flush (s.accept .finish))
  | .idle => .refused .endInIdle
  | .preflush | .enc | .flush => .next s

end Sys2Proof.Machine
end

