-- ==== Sys2Proof/Machine/Symbol.lean ====
section
/-! DEFINITION. The meanings of the two symbol rows (R77): one turn of the accumulator's loop (R78). -/

namespace Sys2Proof.Machine

/-- The symbol of `bit` is shifted into the accumulator (R78). It cannot fail (R103). -/
def shiftSymbol (bit : Bool) (s : State) : State := { s with acc := shiftIn s.acc bit }

/-- SYM0 (R77): channel bit 0. -/
def execSym0 (s : State) : Result := .next (shiftSymbol false s)

/-- SYM1 (R77): channel bit 1. -/
def execSym1 (s : State) : Result := .next (shiftSymbol true s)

end Sys2Proof.Machine
end

