-- ==== Sys2Proof/Machine/TransportByte.lean ====
section
/-! DEFINITION. The meanings of the five transport bytes (R79, R81): the send attempt of that byte
(R100). -/

namespace Sys2Proof.Machine

/-- TB00 (R79): the byte 0x88. -/
def execTb00 (s : State) : Result := sendByte (transportByte false false) s

/-- TB01 (R79): the byte 0x8C. -/
def execTb01 (s : State) : Result := sendByte (transportByte false true) s

/-- TB10 (R79): the byte 0xC8. -/
def execTb10 (s : State) : Result := sendByte (transportByte true false) s

/-- TB11 (R79): the byte 0xCC. -/
def execTb11 (s : State) : Result := sendByte (transportByte true true) s

/-- FLUSH (R81): the byte 0x00, of the pre-frame flush (R133) and of the frame trailer (R137). -/
def execFlush (s : State) : Result := sendByte flushByte s

end Sys2Proof.Machine
end

