-- ==== Sys2Proof/Machine/Dispatch.lean ====
section
/-! DEFINITION. One arm per row of the opcode table. -/

namespace Sys2Proof.Machine

def exec (i : Instr) (s : State) : Host.Outcome State Fault Refusal :=
  match i with
  | .start => Sys2Proof.Machine.execStart s
  | .color r g b => Sys2Proof.Machine.execColor r g b s
  | .finish => Sys2Proof.Machine.execFinish s
  | .sym0 => Sys2Proof.Machine.execSym0 s
  | .sym1 => Sys2Proof.Machine.execSym1 s
  | .tb00 => Sys2Proof.Machine.execTb00 s
  | .tb01 => Sys2Proof.Machine.execTb01 s
  | .tb10 => Sys2Proof.Machine.execTb10 s
  | .tb11 => Sys2Proof.Machine.execTb11 s
  | .flush => Sys2Proof.Machine.execFlush s

end Sys2Proof.Machine
end

