-- ==== Sys2Proof/Machine/Sequencer.lean ====
section
/-! DEFINITION. What follows a finished drain in each sending phase (R102, R133, R137), and the receive
attempt (R101). -/

namespace Sys2Proof.Machine

/-- `EncAdvance()` (R102). -/
def encAdvance (s : State) : State :=
  if s.bsel = 0 then { s with bsel := 1, io := .send }
  else if s.half = 0 then loadGroup s.chan 1 s
  else if s.cidx.toNat < 2 then loadChannel (s.cidx + 1) s.rgb s
  else { s with phase := .wait }

/-- `PreAdvance()` (R133); a count past 19 is log 14's. -/
def preAdvance (s : State) : State :=
  if s.fcnt.toNat + 1 = Config.flushLen then { s with fcnt := s.fcnt + 1, phase := .wait }
  else { s with fcnt := s.fcnt + 1, io := .send }

/-- `FlushAdvance()` (R137); the last slot completes the write (R138). -/
def flushAdvance (s : State) : State :=
  if s.fcnt.toNat + 1 = Config.flushLen then { s.markOk with fcnt := s.fcnt + 1, phase := .idle }
  else { s with fcnt := s.fcnt + 1, io := .send }

/-- `Advance(PHASE)` (R101). In IDLE and WAIT no receive attempt is enabled, so nothing advances. -/
def advance (s : State) : State :=
  match s.phase with
  | .enc => encAdvance s
  | .preflush => preAdvance s
  | .flush => flushAdvance s
  | .idle | .wait => s

/-- RECV-ATTEMPT (R101): the value and any error are discarded (R54, log 11). -/
def recvAttempt (s : State) : State :=
  match s.recvAnswer with
  | .wouldBlock => s.afterRecv
  | .value _ => advance s.afterRecv
  | .err _ => advance s.afterRecv

end Sys2Proof.Machine
end

