-- ==== Sys2Proof/Machine/Fetch.lean ====
section
/-! DEFINITION. Which operation the block performs next (R130), and placing a word where it is found. -/

namespace Sys2Proof.Machine

/-- What is enabled in a state (R130: of one kind only). -/
inductive Fetched where
  /-- The host offers nothing in IDLE or WAIT (R131). -/
  | hold
  /-- The instruction of a word, and the state with the word taken from its port. -/
  | run (i : Instr) (s : State)
  /-- A word that stands for nothing. -/
  | reserved (why : Reserved)
  /-- A send attempt of a byte outside R82's alphabet (log 12); no run reaches one. -/
  | rawSend (b : Byte)
  /-- A receive attempt. -/
  | drain
  deriving DecidableEq, Repr

/-- The token port, read in IDLE and WAIT (R131). -/
def fetchToken (s : State) : Fetched :=
  match s.tokenPort with
  | [] => .hold
  | w :: ws =>
    match decodeToken w with
    | .ok i => .run i { s with tokenPort := ws }
    | .error why => .reserved why

/-- The current output byte, read in a sending phase (R33, R100). -/
def fetchByte (b : Byte) (s : State) : Fetched :=
  match s.io with
  | .recv => .drain
  | .send =>
    match decodeByte b with
    | .ok i => .run i s
    | .error _ => .rawSend b

/-- The bench port's symbol (log 5). -/
def fetchSymbol (n : Nibble) (s : State) : Fetched :=
  match decodeSymbol n with
  | .ok i => .run i { s with symPort := none }
  | .error why => .reserved why

/-- R130: a token in IDLE and WAIT, a transport attempt in the other phases. -/
def fetch (s : State) : Fetched :=
  match s.symPort with
  | some n => fetchSymbol n s
  | none =>
    match s.out with
    | none => fetchToken s
    | some b => fetchByte b s

/-- Put token word `w` first on the port, in the phase that takes it: START in IDLE, COLOR and END in
WAIT, inside a write (R22, R31). A reserved word leaves a ready phase as it is. -/
def placeToken (w : Token) (s : State) : State :=
  let s := { s with tokenPort := w :: s.tokenPort, symPort := none }
  match decodeToken w with
  | .ok .start => if s.phase = .idle then s else { s with phase := .idle, status := .none }
  | .ok _ => { s.markBusy with phase := .wait }
  | .error _ => if s.tokenReady then s else { s with phase := .idle, status := .none }

/-- Make byte `b` the current output byte, with its send attempt next: a flush byte in FLUSH, a symbol
byte as the first byte of a colour just latched, any other byte straight in the accumulator. -/
def placeByte (b : Byte) (s : State) : State :=
  let s := { s.markBusy with symPort := none }
  match byteBits b with
  | some (p, q) => latchColour (ofBits p q ++ (0 : BitVec 6)) 0 0 s
  | none =>
    if b = flushByte then startFlush .flush s
    else { loadGroup 0 0 s with acc := b ++ (0x88 : Byte), phase := .enc }

/-- Put a table word where the next step finds it. -/
def place (w : TableWord) (s : State) : State :=
  match w with
  | .token t => placeToken t s
  | .tbyte b => placeByte b s
  | .symbol n => { s with symPort := some n }

end Sys2Proof.Machine
end

