-- ==== Sys2Proof/Machine/Step.lean ====
section
/-! DEFINITION. One step of the block: a token taken, a send attempt or a receive attempt (R20). -/

namespace Sys2Proof.Machine

/-- One step. While the host offers nothing the block waits without limit: nothing changes (R131,
log 4). -/
def step (s : State) : Host.Outcome State Fault Refusal :=
  match fetch s with
  | .hold => .next s
  | .run i s' => exec i s'
  | .reserved why => .refused (.reservedWord why)
  | .rawSend b => .next (sendAttempt b s)
  | .drain => .next (recvAttempt s)

/-- The state in which the next step runs the row's word `w` of `nbits` bits (log 8). -/
def State.withFetchWord (s : State) (nbits w : Nat) : State := place (tableWord nbits w) s

end Sys2Proof.Machine
end

