-- ==== Sys2Proof/Machine/Frame.lean ====
section
/-! DEFINITION. The composite operations and the frame as a whole, as the spec writes them beside the
single steps (R53 to R55, R85, R104, R105, R140), and what a trace shows at the ports (R15, R16).
Nothing here is called by the step: claims compare the step with it. -/

namespace Sys2Proof.Machine

/-- A colour `(r, g, b)` (R13). -/
abbrev Colour := Byte × Byte × Byte

/-- The 12 transport bytes of one colour: red, then green, then blue (R58, R105). -/
def encodeColour (c : Colour) : List Byte :=
  encodeChannel c.1 ++ (encodeChannel c.2.1 ++ encodeChannel c.2.2)

/-- One flush run (R133, R137). -/
def flushRun : List Byte := List.replicate Config.flushLen flushByte

/-- The pre-frame flush, where the block is instantiated with `IDLE_HIGH` (R133). -/
def preFlush (idleHigh : Bool) : List Byte := if idleHigh then flushRun else []

/-- `frameBytes(IDLE_HIGH, cs)` (R140). -/
def frameBytes (idleHigh : Bool) (cs : List Colour) : List Byte :=
  preFlush idleHigh ++ (cs.flatMap encodeColour ++ flushRun)

/-- The tokens of a write of `cs` up to its last colour (R70). -/
def openFrame (cs : List Colour) : List Instr := .start :: cs.map fun c => .color c.1 c.2.1 c.2.2

/-- The pseudo-instruction FRAME (R85): the tokens of one write of `cs`. -/
def frameInstrs (cs : List Colour) : List Instr := openFrame cs ++ [.finish]

/-- The words of the host tokens among some instructions (R72). -/
def tokenWords (is : List Instr) : List Token := is.filterMap encodeToken

/-- The byte of an event that ends a send operation (R16, R53). -/
def Event.offered : Event → Option Byte
  | .send b .ok => some b
  | .send b (.err _) => some b
  | .send _ .wouldBlock => none
  | .recv _ => none
  | .accept _ => none

/-- The byte of an event by which the transport accepts a byte (R51). -/
def Event.sent : Event → Option Byte
  | .send b .ok => some b
  | .send _ (.err _) => none
  | .send _ .wouldBlock => none
  | .recv _ => none
  | .accept _ => none

/-- An event that ends a drain (R54). -/
def Event.isDrain : Event → Bool
  | .recv .wouldBlock => false
  | .recv (.value _) => true
  | .recv (.err _) => true
  | .send _ _ => false
  | .accept _ => false

/-- The token of an event that accepts one (R131). -/
def Event.token : Event → Option Instr
  | .accept i => some i
  | .send _ _ => none
  | .recv _ => none

/-- A transport attempt (R20). -/
def Event.isAttempt : Event → Bool
  | .accept _ => false
  | .send _ _ => true
  | .recv _ => true

/-- The bytes of the send operations of a trace, in order (R16). -/
def offeredBytes (evs : List Event) : List Byte := evs.filterMap Event.offered

/-- The bytes the transport accepted, in order (R51). -/
def sentBytes (evs : List Event) : List Byte := evs.filterMap Event.sent

/-- The number of finished drains (R54). -/
def drainCount (evs : List Event) : Nat := evs.countP Event.isDrain

/-- The tokens accepted, in order (R131). -/
def acceptedTokens (evs : List Event) : List Instr := evs.filterMap Event.token

/-- The transport attempts of a trace, in order (R15). -/
def attempts (evs : List Event) : List Event := evs.filter Event.isAttempt

/-- How a composite operation ends under given answers of the transport: it is done, a send failed, or
the answers ran out while it still waits. -/
inductive Ending where
  | done
  | failed (e : TransportErr)
  | waiting
  deriving DecidableEq, Repr

/-- What a composite operation does: its attempts, its ending, and the answers it did not use. -/
structure Transfer where
  events : List Event
  ending : Ending
  sends : List SendAnswer
  recvs : List RecvAnswer
  deriving DecidableEq, Repr

/-- `BlockingSend(b)` (R53) under the answers `as`. -/
def blockingSend (b : Byte) (rs : List RecvAnswer) : List SendAnswer → Transfer
  | [] => ⟨[], .waiting, [], rs⟩
  | .wouldBlock :: as =>
    let r := blockingSend b rs as
    { r with events := .send b .wouldBlock :: r.events }
  | .ok :: as => ⟨[.send b .ok], .done, as, rs⟩
  | .err e :: as => ⟨[.send b (.err e)], .failed e, as, rs⟩

/-- `Drain()` (R54) under the answers `rs`. -/
def drain (as : List SendAnswer) : List RecvAnswer → Transfer
  | [] => ⟨[], .waiting, as, []⟩
  | .wouldBlock :: rs =>
    let r := drain as rs
    { r with events := .recv .wouldBlock :: r.events }
  | .value v :: rs => ⟨[.recv (.value v)], .done, as, rs⟩
  | .err e :: rs => ⟨[.recv (.err e)], .done, as, rs⟩

/-- First `t`, then, if it is done, what follows. -/
def Transfer.andThen (t : Transfer) (next : List SendAnswer → List RecvAnswer → Transfer) : Transfer :=
  match t.ending with
  | .done =>
    let u := next t.sends t.recvs
    { u with events := t.events ++ u.events }
  | .failed _ => t
  | .waiting => t

/-- `ByteSlot(b)` (R55): no drain after a failed send. -/
def byteSlot (b : Byte) (as : List SendAnswer) (rs : List RecvAnswer) : Transfer :=
  (blockingSend b rs as).andThen drain

/-- The byte slots of `bs` in order: `EncodeChannel(v)` for `encodeChannel v` (R104), `EncodeColor` for
`encodeColour c` (R105), a flush run for `flushRun` (R133, R137), a whole write for `frameBytes` (R140). -/
def byteSlots : List Byte → List SendAnswer → List RecvAnswer → Transfer
  | [], as, rs => ⟨[], .done, as, rs⟩
  | b :: bs, as, rs => (byteSlot b as rs).andThen (byteSlots bs)

/-- The answers of a transport to send operations that all succeed, the k-th after `ns[k]` retries. -/
def liveSends (ns : List Nat) : List SendAnswer :=
  ns.flatMap fun n => List.replicate n .wouldBlock ++ [.ok]

/-- The answers of a transport to drains, the k-th after `(ds[k]).1` retries. -/
def liveDrains (ds : List (Nat × RecvAnswer)) : List RecvAnswer :=
  ds.flatMap fun d => List.replicate d.1 .wouldBlock ++ [d.2]

end Sys2Proof.Machine
end

