-- ==== Sys2Proof/WellFormed.lean ====
section
/-! DEFINITION. Which source lines may be assembled (R84: operands 0..255), and which token sequences
form one write (R70). Terms of `Instr` need no check: their operands are 8-bit fields. -/

namespace Sys2Proof

/-- An operand of the assembler's text is 0..255 (R84). -/
def operandInRange (n : Nat) : Bool := n < 256

/-- All three operands of a colour are in range (R84). -/
def colourInRange (c : Nat × Nat × Nat) : Bool :=
  operandInRange c.1 && operandInRange c.2.1 && operandInRange c.2.2

/-- R84: "An operand outside 0..255 is an assembly error, not a wrapped value." -/
def SourceLine.wellFormed : SourceLine → Bool
  | .blank | .start | .finish => true
  | .color r g b => colourInRange (r, g, b)
  | .frame cs => cs.all colourInRange

/-- The rest of one write after its START: COLOR tokens, then END, then nothing (R70). -/
def writeTail : List Instr → Bool
  | .color _ _ _ :: is => writeTail is
  | [.finish] => true
  | _ => false

/-- R70: "One write is the token sequence `START`, then zero or more `COLOR` tokens, then `END`." -/
def isWrite : List Instr → Bool
  | .start :: is => writeTail is
  | _ => false

end Sys2Proof
end

