-- ==== Sys2Proof/Machine/Assembler.lean ====
section
/-! DEFINITION. The text syntax of token streams (R84) and the pseudo-instruction FRAME (R85): characters
to source lines, source lines to tokens and words (log 16). -/

namespace Sys2Proof.Machine

/-- Why a line of text is not assembled. -/
inductive AsmError where
  /-- The line is none of the forms of R84 and R85. -/
  | badLine
  /-- R84: "An operand outside 0..255 is an assembly error, not a wrapped value." -/
  | operandOutOfRange
  deriving DecidableEq, Repr

/-- The pieces of a line. -/
inductive Lexeme where
  | atom (cs : List Char)
  | comma
  | openParen
  | closeParen
  | bad (c : Char)
  deriving DecidableEq, Repr

/-- A finished atom before what follows it; `rev` holds its characters last one first. -/
def flushAtom (rev : List Char) (rest : List Lexeme) : List Lexeme :=
  if rev = [] then rest else .atom rev.reverse :: rest

/-- The pieces of a line, blanks between them dropped, a `;` ending it (R84). -/
def lex (rev : List Char) : List Char → List Lexeme
  | [] => flushAtom rev []
  | c :: cs =>
    if c = ';' then flushAtom rev []
    else if c.isAlphanum then lex (c :: rev) cs
    else if c = ' ' ∨ c = '\t' ∨ c = '\r' then flushAtom rev (lex [] cs)
    else if c = ',' then flushAtom rev (.comma :: lex [] cs)
    else if c = '(' then flushAtom rev (.openParen :: lex [] cs)
    else if c = ')' then flushAtom rev (.closeParen :: lex [] cs)
    else flushAtom rev (.bad c :: lex [] cs)

/-- The value of a digit in base 10 or 16. -/
def digitValue (base : Nat) (c : Char) : Option Nat :=
  let v :=
    if c.isDigit then c.toNat - '0'.toNat
    else if c.isLower then c.toNat - 'a'.toNat + 10
    else if c.isUpper then c.toNat - 'A'.toNat + 10
    else 16
  if v < base then some v else none

/-- The value of a run of digits after the value `n` read so far. -/
def digitsValue (base n : Nat) : List Char → Option Nat
  | [] => some n
  | c :: cs =>
    match digitValue base c with
    | some v => digitsValue base (base * n + v) cs
    | none => none

/-- An operand, decimal or 0x-hex (R84). -/
def parseOperand : List Char → Option Nat
  | [] => none
  | ['0', 'x'] => none
  | '0' :: 'x' :: cs => digitsValue 16 0 cs
  | cs => digitsValue 10 0 cs

/-- Three operands of a colour. -/
def parseColour (r g b : List Char) : Option (Nat × Nat × Nat) :=
  match parseOperand r, parseOperand g, parseOperand b with
  | some r, some g, some b => some (r, g, b)
  | _, _, _ => none

/-- The colours of FRAME after the first: each a comma and three operands in parentheses (R85). -/
def parseMore : List Lexeme → Option (List (Nat × Nat × Nat))
  | [] => some []
  | .comma :: .openParen :: .atom r :: .comma :: .atom g :: .comma :: .atom b :: .closeParen :: ls =>
    match parseColour r g b, parseMore ls with
    | some c, some cs => some (c :: cs)
    | _, _ => none
  | _ => none

/-- The colours of FRAME: none, or a list separated by commas (R85). -/
def parseFrame (ls : List Lexeme) : Option (List (Nat × Nat × Nat)) :=
  if ls = [] then some [] else parseMore (.comma :: ls)

/-- A mnemonic in capitals: mnemonics are case-insensitive (R84). -/
def capitals (cs : List Char) : List Char := cs.map Char.toUpper

/-- The pieces of a line as a source line (R84, R85). R84 is silent on a line with no token, empty or a
comment only: DESIGN CHOICE (log 16), it is a blank line. -/
def parseLexemes : List Lexeme → Option SourceLine
  | [] => some .blank
  | .atom m :: ls =>
    if capitals m = ['S', 'T', 'A', 'R', 'T'] then
      if ls = [] then some .start else none
    else if capitals m = ['E', 'N', 'D'] then
      if ls = [] then some .finish else none
    else if capitals m = ['C', 'O', 'L', 'O', 'R'] then
      match ls with
      | [.atom r, .comma, .atom g, .comma, .atom b] =>
        (parseColour r g b).map fun c => .color c.1 c.2.1 c.2.2
      | _ => none
    else if capitals m = ['F', 'R', 'A', 'M', 'E'] then (parseFrame ls).map .frame
    else none
  | _ => none

/-- One line of text (R84: one token per line). -/
def parseLine (text : List Char) : Except AsmError SourceLine :=
  match parseLexemes (lex [] text) with
  | some l => .ok l
  | none => .error .badLine

/-- A colour whose operands are in range. -/
def colourOf (c : Nat × Nat × Nat) : Colour :=
  (BitVec.ofNat 8 c.1, BitVec.ofNat 8 c.2.1, BitVec.ofNat 8 c.2.2)

/-- The tokens of a source line; operands out of range are refused, never wrapped (R84, R85). A blank line
has none: DESIGN CHOICE (log 16). -/
def assembleLine (l : SourceLine) : Except AsmError (List Instr) :=
  if l.wellFormed then
    match l with
    | .blank => .ok []
    | .start => .ok [.start]
    | .color r g b => .ok [.color (BitVec.ofNat 8 r) (BitVec.ofNat 8 g) (BitVec.ofNat 8 b)]
    | .finish => .ok [.finish]
    | .frame cs => .ok (frameInstrs (cs.map colourOf))
  else .error .operandOutOfRange

/-- The tokens of some source lines; the first line refused ends the assembly. -/
def assembleLines : List SourceLine → Except AsmError (List Instr)
  | [] => .ok []
  | l :: ls =>
    match assembleLine l, assembleLines ls with
    | .ok is, .ok js => .ok (is ++ js)
    | .error e, _ => .error e
    | .ok _, .error e => .error e

/-- The token words of one line of text (R72, R84, R85). -/
def assembleText (text : List Char) : Except AsmError (List Token) :=
  match parseLine text with
  | .error e => .error e
  | .ok l =>
    match assembleLine l with
    | .error e => .error e
    | .ok is => .ok (tokenWords is)

end Sys2Proof.Machine
end

