-- ==== Sys2Proof/Machine/Wire.lean ====
section
/-! DEFINITION. What the bytes mean on the data line, for a caller who meets the duties of R193: bit order
(R57), symbol timing (R106, R201), flush duration (R202). No rule of the machine reads any of it (R203,
log 17). -/

namespace Sys2Proof.Machine

/-- The serial bits of one byte, the most significant first (R57, the caller's obligation). -/
def wireBits (b : Byte) : List Bool :=
  [b.getLsbD 7, b.getLsbD 6, b.getLsbD 5, b.getLsbD 4, b.getLsbD 3, b.getLsbD 2, b.getLsbD 1, b.getLsbD 0]

/-- The serial bits of a run of bytes sent back to back. -/
def wireStream (bs : List Byte) : List Bool := bs.flatMap wireBits

/-- Bit periods for which a symbol holds the line high (R77, R106). -/
def highCycles (bit : Bool) : Nat := if bit then 2 else 1

/-- Bit periods for which a symbol holds the line low (R77, R106). -/
def lowCycles (bit : Bool) : Nat := if bit then 2 else 3

/-- The serial bits of one symbol: high, then low (R77). -/
def symbolWire (bit : Bool) : List Bool :=
  List.replicate (highCycles bit) true ++ List.replicate (lowCycles bit) false

/-- How many low bits end a run of bytes (R202). -/
def trailingLow (bs : List Byte) : Nat := ((wireStream bs).reverse.takeWhile (!·)).length

/-- The clock window of R195, `f` in MHz: the closed interval [3.00, 3.44]. -/
def clockInWindow (f : ℚ) : Prop := 300 / 100 ≤ f ∧ f ≤ 344 / 100

/-- `T`, the bit time in ns for a clock of `f` MHz (R201). -/
def bitTime (f : ℚ) : ℚ := 1000 / f

/-- The period of a symbol in ns (R201). -/
def symbolPeriod (f : ℚ) : ℚ := 4 * bitTime f

/-- The symbol rate in kHz for a clock of `f` MHz (R201). -/
def symbolRate (f : ℚ) : ℚ := 1000 * f / 4

/-- The high time of a symbol in ns (R201). -/
def highTime (bit : Bool) (f : ℚ) : ℚ := highCycles bit * bitTime f

/-- The low time of a symbol in ns (R201). -/
def lowTime (bit : Bool) (f : ℚ) : ℚ := lowCycles bit * bitTime f

/-- The duration of a run of bytes in ns, sent back to back (R201, R202). -/
def wireTime (bs : List Byte) (f : ℚ) : ℚ := (wireStream bs).length * bitTime f

end Sys2Proof.Machine
end

