-- ==== Sys2Proof/Safety.lean ====
section
/-! DEFINITION. What claims about this block are stated in: runs, the invariant, the protocol at the
transport port, the sameness of two states in what the outside can see, and the premises the spec names
(R15, R40, R64, R193, R203). -/

namespace Sys2Proof.Machine

/-- `k` steps of the machine end in state `t`. -/
def Reaches (s : State) (k : Nat) (t : State) : Prop := Host.Core.run Sys2Proof.core k s = .next t

/-- The machine's invariant. The bench port is empty; `STATUS` is BUSY exactly while a write is in
progress (R31); `CIDX` is 0..2 (R24); `FCNT` is 0..20, and below 20 while a flush runs (R30); the
pre-frame flush runs only under `IDLE_HIGH` (R133); in ENC, `CHAN` is the selected channel of `RGB`
(R27) and `ACC` the symbols of the selected group (R29). -/
structure State.Inv (s : State) : Prop where
  bench : s.symPort = none
  busy : s.status = .busy ↔ s.phase ≠ .idle
  cidx : s.cidx.toNat ≤ 2
  fcnt : s.fcnt.toNat ≤ Config.flushLen
  flushing : s.phase = .preflush ∨ s.phase = .flush → s.fcnt.toNat < Config.flushLen
  preflush : s.phase = .preflush → Config.idleHigh = true
  chan : s.phase = .enc → s.chan = channel s.rgb s.cidx
  acc : s.phase = .enc → s.acc = buildAcc s.chan s.half

/-- The ten fields of R21 are the same in both states. -/
structure SameBlock (s t : State) : Prop where
  phase : t.phase = s.phase
  io : t.io = s.io
  cidx : t.cidx = s.cidx
  half : t.half = s.half
  bsel : t.bsel = s.bsel
  chan : t.chan = s.chan
  rgb : t.rgb = s.rgb
  acc : t.acc = s.acc
  fcnt : t.fcnt = s.fcnt
  status : t.status = s.status

/-- R82's output alphabet. -/
def inAlphabet (b : Byte) : Bool :=
  b = 0x00 || b = 0x88 || b = 0x8C || b = 0xC8 || b = 0xCC

/-- The byte of a send attempt, whatever its answer. -/
def Event.attempted : Event → Option Byte
  | .send b _ => some b
  | .recv _ => none
  | .accept _ => none

/-- Every byte offered so far is in the output alphabet (R82). -/
def alphabetKept (evs : List Event) : Prop := ∀ b ∈ evs.filterMap Event.attempted, inAlphabet b = true

/-- Where the transport port stands between two attempts (R55, R64): nothing outstanding, a byte not yet
taken, a drain outstanding. -/
inductive Slot where
  | ready
  | sending (b : Byte)
  | draining
  deriving DecidableEq, Repr

/-- The port after a send attempt of `b` answered `a`. -/
def Slot.afterAnswer (b : Byte) : SendAnswer → Slot
  | .wouldBlock => .sending b
  | .ok => .draining
  | .err _ => .ready

/-- One event at the port; `none` is an event out of order: a second byte before the first is taken, an
attempt or a token while a drain is outstanding, a drain with nothing to drain (R53, R54, R55, R62, R64). -/
def Slot.next : Slot → Event → Option Slot
  | .ready, .accept _ => some .ready
  | .ready, .send b a => some (Slot.afterAnswer b a)
  | .ready, .recv _ => none
  | .sending b, .send b' a => if b' = b then some (Slot.afterAnswer b a) else none
  | .sending _, .accept _ => none
  | .sending _, .recv _ => none
  | .draining, .recv .wouldBlock => some .draining
  | .draining, .recv (.value _) => some .ready
  | .draining, .recv (.err _) => some .ready
  | .draining, .send _ _ => none
  | .draining, .accept _ => none

/-- The port after a trace that keeps the order of R64. -/
def slotAfter : List Event → Option Slot := List.foldlM Slot.next .ready

/-- The trace keeps the order of R55 and R64, and the port stands where `PHASE` and `IO` say. -/
structure State.PortInv (s : State) : Prop where
  bench : s.symPort = none
  atRest : s.sending = false → slotAfter s.trace = some .ready
  atSend : s.sending = true → s.io = .send →
    slotAfter s.trace = some .ready ∨ ∃ b, s.out = some b ∧ slotAfter s.trace = some (.sending b)
  atDrain : s.sending = true → s.io = .recv → slotAfter s.trace = some .draining

/-- Two states that differ at most in registers their phase gives no meaning to (R23 to R30, R40). -/
structure Agree (s t : State) : Prop where
  phase : t.phase = s.phase
  status : t.status = s.status
  tokenPort : t.tokenPort = s.tokenPort
  sendScript : t.sendScript = s.sendScript
  recvScript : t.recvScript = s.recvScript
  draws : t.draws = s.draws
  trace : t.trace = s.trace
  symPort : t.symPort = s.symPort
  io : s.sending = true → t.io = s.io
  encoding : s.phase = .enc → t.cidx = s.cidx ∧ t.half = s.half ∧ t.bsel = s.bsel ∧
    t.chan = s.chan ∧ t.rgb = s.rgb ∧ t.acc = s.acc
  flushing : s.phase = .preflush ∨ s.phase = .flush → t.fcnt = s.fcnt

/-- The answer of a send attempt with its error renamed. -/
def SendAnswer.mapErr (f : TransportErr → TransportErr) : SendAnswer → SendAnswer
  | .ok => .ok
  | .wouldBlock => .wouldBlock
  | .err e => .err (f e)

/-- The answer of a receive attempt with its error renamed. -/
def RecvAnswer.mapErr (f : TransportErr → TransportErr) : RecvAnswer → RecvAnswer
  | .value v => .value v
  | .wouldBlock => .wouldBlock
  | .err e => .err (f e)

/-- The status with its error renamed. -/
def Status.mapErr (f : TransportErr → TransportErr) : Status → Status
  | .none => .none
  | .busy => .busy
  | .ok => .ok
  | .err e => .err (f e)

/-- An event with its error renamed. -/
def Event.mapErr (f : TransportErr → TransportErr) : Event → Event
  | .accept i => .accept i
  | .send b a => .send b (SendAnswer.mapErr f a)
  | .recv a => .recv (RecvAnswer.mapErr f a)

/-- A state with every transport error renamed (R9). -/
def State.mapErr (f : TransportErr → TransportErr) (s : State) : State :=
  { s with
    status := s.status.mapErr f
    sendScript := s.sendScript.map (SendAnswer.mapErr f)
    recvScript := s.recvScript.map (RecvAnswer.mapErr f)
    trace := s.trace.map (Event.mapErr f) }

/-- The answer to a receive attempt with what a drain discards replaced by `d` (R54). -/
def RecvAnswer.blank (d : RecvAnswer) : RecvAnswer → RecvAnswer
  | .wouldBlock => .wouldBlock
  | .value _ => d
  | .err _ => d

/-- An event with what a drain discards replaced by `d`. -/
def Event.blank (d : RecvAnswer) : Event → Event
  | .accept i => .accept i
  | .send b a => .send b a
  | .recv a => .recv (RecvAnswer.blank d a)

/-- A state with every answer a drain discards replaced by `d`, to come and past (R101). -/
def State.blankDrains (d : RecvAnswer) (s : State) : State :=
  { s with
    recvScript := s.recvScript.map (RecvAnswer.blank d)
    trace := s.trace.map (Event.blank d) }

/-- Two states whose next steps have the same kind and the same position afterwards: they differ at most
in the colour being encoded and in the record of the past (R102). -/
structure SamePosition (s t : State) : Prop where
  phase : t.phase = s.phase
  io : t.io = s.io
  cidx : t.cidx = s.cidx
  half : t.half = s.half
  bsel : t.bsel = s.bsel
  fcnt : t.fcnt = s.fcnt
  status : t.status = s.status
  sendScript : t.sendScript = s.sendScript
  recvScript : t.recvScript = s.recvScript
  draws : t.draws = s.draws

/-- The three kinds of reserved token word (R74). -/
def reservedToken (w : Token) : Prop :=
  tokenOp w = 0x00 ∨ 0x04 ≤ (tokenOp w).toNat ∨
    (tokenOp w = 0x01 ∧ tokenPayload w ≠ 0) ∨ (tokenOp w = 0x03 ∧ tokenPayload w ≠ 0)

/-- The symbol row of a channel bit (R77). -/
def symbolRow (bit : Bool) : Instr := if bit then .sym1 else .sym0

/-- The transport-byte rows with the byte each sends (R79, R81). -/
def byteRows : List (Instr × Byte) :=
  [(.tb00, 0x88), (.tb01, 0x8C), (.tb10, 0xC8), (.tb11, 0xCC), (.flush, 0x00)]

/-- The outcome with its state changed by `f`. -/
def mapResult (f : State → State) : Result → Result
  | .next s => .next (f s)
  | .fault r => .fault r
  | .refused r => .refused r

/-- `TRANSPORT_LIVE` (R203): wherever a run stands at a transport attempt, an attempt is later answered
otherwise than `WouldBlock`. -/
def TransportLive (s : State) : Prop :=
  ∀ k t, Reaches s k t → t.sending = true →
    ∃ j u evs e, Reaches t j u ∧ u.trace = t.trace ++ (evs ++ [e]) ∧
      (e.offered.isSome = true ∨ e.isDrain = true)

/-- `HOST_LIVE` (R203): wherever a run stands in WAIT, the host offers a token. -/
def HostLive (s : State) : Prop := ∀ k t, Reaches s k t → t.phase = .wait → t.tokenPort ≠ []

/-- The caller's duties before the first START (R181, R193): facts about the transport and its use that
the block neither reads nor checks. -/
structure CallerDuties where
  /-- The transport's serial clock in MHz (R195). -/
  clock : ℚ
  /-- The transport shifts the most significant bit first (R57). -/
  msbFirst : Bool
  /-- The transport is full duplex (R181). -/
  fullDuplex : Bool
  /-- The physical idle level of the transport's line is high. -/
  lineIdlesHigh : Bool
  /-- No other agent uses the transport during a write (R182). -/
  exclusive : Bool

/-- All duties of R193 are met. -/
def CallerDuties.met (d : CallerDuties) : Prop :=
  clockInWindow d.clock ∧ d.msbFirst = true ∧ d.fullDuplex = true ∧
    d.lineIdlesHigh = Config.idleHigh ∧ d.exclusive = true

/-- A safe run: no step of it is refused (R14). Faults there are none. -/
def SafeRun (s : State) (k : Nat) : Prop := ∃ t, Reaches s k t

end Sys2Proof.Machine
end

