-- ==== Sys2Proof/Certificates/Slice0/Obligations.lean ====
section
/-! DEFINITION. What is stated about the block, for the provers. Each docstring names the rule. -/

open Sys2Proof Sys2Proof.Machine

/-! ### Encodings -/

/-- The ten rows of the opcode table, each word as the tables R72, R77, R79 and R81 write it, and words
the token decoder refuses (R74). -/
def Obligations.TableWordsDecode : Prop :=
  decode (.token 0x01000000) = .ok .start ∧
  decode (.token 0x02123456) = .ok (.color 0x12 0x34 0x56) ∧
  decode (.token 0x0200FF80) = .ok (.color 0x00 0xFF 0x80) ∧
  decode (.token 0x03000000) = .ok .finish ∧
  decode (.symbol 0b1000) = .ok .sym0 ∧
  decode (.symbol 0b1100) = .ok .sym1 ∧
  decode (.tbyte 0b10001000) = .ok .tb00 ∧
  decode (.tbyte 0b10001100) = .ok .tb01 ∧
  decode (.tbyte 0b11001000) = .ok .tb10 ∧
  decode (.tbyte 0b11001100) = .ok .tb11 ∧
  decode (.tbyte 0b00000000) = .ok .flush ∧
  decode (.token 0x01000001) = .error (.startPayload 0x000001) ∧
  decode (.token 0x00000000) = .error (.opcode 0x00)

/-- Decoding and encoding agree both ways, for every instruction and every word. -/
def Obligations.DecodeEncodeAgree : Prop :=
  (∀ i : Instr, decode (encode i) = .ok i) ∧
  ∀ (w : TableWord) (i : Instr), decode w = .ok i → encode i = w

/-- R75: the token decoder is total, and every word outside the three forms is refused. -/
def Obligations.TokenDecoderTotal : Prop :=
  ∀ w : Token,
    (w.extractLsb' 24 8 = 0x01 → w.extractLsb' 0 24 = 0 → decodeToken w = .ok .start) ∧
    (w.extractLsb' 24 8 = 0x02 →
      decodeToken w = .ok (.color (w.extractLsb' 16 8) (w.extractLsb' 8 8) (w.extractLsb' 0 8))) ∧
    (w.extractLsb' 24 8 = 0x03 → w.extractLsb' 0 24 = 0 → decodeToken w = .ok .finish) ∧
    (¬(w.extractLsb' 24 8 = 0x01 ∧ w.extractLsb' 0 24 = 0) → w.extractLsb' 24 8 ≠ 0x02 →
      ¬(w.extractLsb' 24 8 = 0x03 ∧ w.extractLsb' 0 24 = 0) → ∃ why, decodeToken w = .error why)

/-- R80: the four transport bytes of a channel value, by accumulators and by bit pairs. -/
def Obligations.ChannelBytes : Prop :=
  ∀ v : Byte,
    encodeChannel v =
      [(buildAcc v 0).extractLsb' 8 8, (buildAcc v 0).extractLsb' 0 8,
       (buildAcc v 1).extractLsb' 8 8, (buildAcc v 1).extractLsb' 0 8] ∧
    encodeChannel v =
      [transportByte (v.getLsbD 7) (v.getLsbD 6), transportByte (v.getLsbD 5) (v.getLsbD 4),
       transportByte (v.getLsbD 3) (v.getLsbD 2), transportByte (v.getLsbD 1) (v.getLsbD 0)] ∧
    (encodeChannel v).length = 4

/-- R83: the round-trip law, bit by bit, and that no two channel values share their bytes. -/
def Obligations.ChannelRoundTrip : Prop :=
  symbolBit 0x8 = some ((0x8 : Nibble).getLsbD 2) ∧ symbolBit 0xC = some ((0xC : Nibble).getLsbD 2) ∧
  (∀ (v t0 t1 t2 t3 : Byte), encodeChannel v = [t0, t1, t2, t3] →
    v.getLsbD 7 = t0.getLsbD 6 ∧ v.getLsbD 6 = t0.getLsbD 2 ∧
    v.getLsbD 5 = t1.getLsbD 6 ∧ v.getLsbD 4 = t1.getLsbD 2 ∧
    v.getLsbD 3 = t2.getLsbD 6 ∧ v.getLsbD 2 = t2.getLsbD 2 ∧
    v.getLsbD 1 = t3.getLsbD 6 ∧ v.getLsbD 0 = t3.getLsbD 2) ∧
  ∀ v w : Byte, encodeChannel v = encodeChannel w → v = w

/-- From R83: the bytes of any run of channel values decode to it. -/
def Obligations.StreamRoundTrip : Prop :=
  ∀ vs : List Byte, decodeStream (vs.flatMap encodeChannel) = some vs

/-- From R84 and R85: what the assembler makes of a source line, out-of-range operands refused. -/
def Obligations.AssembledTokens : Prop :=
  (∀ r g b : Nat, r < 256 → g < 256 → b < 256 →
    ∃ i, assembleLine (.color r g b) = .ok [i] ∧
      encode i = .token (BitVec.ofNat 32 (0x02000000 ||| r <<< 16 ||| g <<< 8 ||| b))) ∧
  (∀ r g b : Nat, 256 ≤ r ∨ 256 ≤ g ∨ 256 ≤ b →
    assembleLine (.color r g b) = .error .operandOutOfRange) ∧
  (∀ cs : List (Nat × Nat × Nat), (∃ c ∈ cs, 256 ≤ c.1 ∨ 256 ≤ c.2.1 ∨ 256 ≤ c.2.2) →
    assembleLine (.frame cs) = .error .operandOutOfRange) ∧
  ∀ cs : List (Nat × Nat × Nat), (∀ c ∈ cs, c.1 < 256 ∧ c.2.1 < 256 ∧ c.2.2 < 256) →
    ∃ is, assembleLine (.frame cs) = .ok is ∧ isWrite is = true ∧
      assembleLines (.start :: cs.map (fun c => .color c.1 c.2.1 c.2.2) ++ [.finish]) = .ok is

/-! ### Host tokens -/

/-- R132: START in IDLE. The pre-frame flush comes first where the block is instantiated with
`IDLE_HIGH`. In WAIT it is refused. Everything else is as before. -/
def Obligations.StartBeginsWrite : Prop :=
  ∀ s : State,
    (s.phase = .idle →
      exec .start s = .next
        (if Config.idleHigh then
          { s with trace := s.trace ++ [.accept .start], status := .busy, phase := .preflush,
                   fcnt := 0, io := .send }
        else
          { s with trace := s.trace ++ [.accept .start], status := .busy, phase := .wait })) ∧
    (s.phase = .wait → exec .start s = .refused .startInWait)

/-- From R132, for each value of `IDLE_HIGH`: the effect of an accepted START. -/
def Obligations.StartByIdleLevel : Prop :=
  ∀ s : State,
    startWrite true s = { s with status := .busy, phase := .preflush, fcnt := 0, io := .send } ∧
    startWrite false s = { s with status := .busy, phase := .wait } ∧
    (s.phase = .idle → exec .start s = .next (startWrite Config.idleHigh (s.accept .start)))

/-- From R134: COLOR in WAIT latches the colour and starts its red channel, nothing else changes. In IDLE
it is refused. -/
def Obligations.ColorLatched : Prop :=
  ∀ (s : State) (r g b : Byte),
    (s.phase = .wait →
      exec (.color r g b) s = .next
        { s with trace := s.trace ++ [.accept (.color r g b)],
                 rgb := (r.setWidth 24 <<< 16) ||| (g.setWidth 24 <<< 8) ||| b.setWidth 24,
                 cidx := 0, chan := r, half := 0, acc := buildAcc r 0, bsel := 0, io := .send,
                 phase := .enc }) ∧
    (s.phase = .idle → exec (.color r g b) s = .refused .colorInIdle)

/-- R136: END in WAIT starts the frame trailer, nothing else changes. In IDLE it is refused. -/
def Obligations.EndStartsTrailer : Prop :=
  ∀ s : State,
    (s.phase = .wait →
      exec .finish s = .next
        { s with trace := s.trace ++ [.accept .finish], phase := .flush, fcnt := 0, io := .send }) ∧
    (s.phase = .idle → exec .finish s = .refused .endInIdle)

/-- From R131: the meaning of a token in a busy phase changes nothing, the host is held. That it is a next
state and not a stop is the model's choice (log 4); the step itself reads no token there. -/
def Obligations.TokenHeldInBusyPhase : Prop :=
  ∀ (s : State) (r g b : Byte), s.sending = true →
    exec .start s = .next s ∧ exec (.color r g b) s = .next s ∧ exec .finish s = .next s

/-- R139 and R74: the tokens refused on a ready port. -/
def Obligations.TokensRefused : Prop :=
  ∀ (s : State) (w : Token) (ws : List Token), s.symPort = none → s.tokenPort = w :: ws →
    (s.phase = .wait → w = 0x01000000 → step s = .refused .startInWait) ∧
    (s.phase = .idle → tokenOp w = 0x02 → step s = .refused .colorInIdle) ∧
    (s.phase = .idle → w = 0x03000000 → step s = .refused .endInIdle) ∧
    (s.tokenReady = true → reservedToken w → ∃ why, step s = .refused (.reservedWord why))

/-- From R131 and R34: a busy phase consumes no token; a ready phase takes the word on the port or refuses
it; with nothing on the port nothing changes (that the wait is a step that changes nothing is the model's
choice, log 4). -/
def Obligations.TokenPortDiscipline : Prop :=
  ∀ s : State, s.symPort = none →
    (s.tokenReady = false → ∃ t, step s = .next t ∧ t.tokenPort = s.tokenPort ∧
      acceptedTokens t.trace = acceptedTokens s.trace) ∧
    (∀ w ws, s.tokenReady = true → s.tokenPort = w :: ws →
      (∃ t i, step s = .next t ∧ decodeToken w = .ok i ∧ t.tokenPort = ws ∧
        t.trace = s.trace ++ [.accept i]) ∨ ∃ r, step s = .refused r) ∧
    (s.tokenReady = true → s.tokenPort = [] → step s = .next s)

/-! ### Symbols and transport bytes -/

/-- From R77 and R78: a symbol row shifts its nibble into the accumulator and changes nothing else. That the
rows run as instructions of their own is the model's choice (log 5). -/
def Obligations.SymbolRowsShiftIn : Prop :=
  ∀ s : State,
    exec .sym0 s = .next { s with acc := (s.acc <<< 4) ||| 0x0008 } ∧
    exec .sym1 s = .next { s with acc := (s.acc <<< 4) ||| 0x000C }

/-- From R78: `BuildAcc` is the four nibbles side by side, and the four symbol rows run on a zero
accumulator, first bit first, build it (the rows as steps of their own are the model's choice, log 5). -/
def Obligations.BuildAccIsFourSymbols : Prop :=
  (∀ v : Byte,
    buildAcc v 0 = ((nib (v.getLsbD 7) ++ nib (v.getLsbD 6)) ++ nib (v.getLsbD 5)) ++ nib (v.getLsbD 4) ∧
    buildAcc v 1 = ((nib (v.getLsbD 3) ++ nib (v.getLsbD 2)) ++ nib (v.getLsbD 1)) ++ nib (v.getLsbD 0)) ∧
  ∀ (s : State) (v : Byte) (h : BitVec 1), s.acc = 0 →
    ∃ s1 s2 s3,
      exec (symbolRow (v.getLsbD (7 - 4 * h.toNat))) s = .next s1 ∧
      exec (symbolRow (v.getLsbD (6 - 4 * h.toNat))) s1 = .next s2 ∧
      exec (symbolRow (v.getLsbD (5 - 4 * h.toNat))) s2 = .next s3 ∧
      exec (symbolRow (v.getLsbD (4 - 4 * h.toNat))) s3 = .next { s with acc := buildAcc v h }

/-- From R79, R81 and R100: each transport-byte row makes one send attempt of its byte where that byte is
the current one. Where it is not, the block has no such attempt; that the model then refuses by the name
`notEnabled` is the model's choice (log 9). -/
def Obligations.ByteRowsSend : Prop :=
  ∀ (i : Instr) (b : Byte) (s : State), (i, b) ∈ byteRows →
    (s.io = .send → s.out = some b →
      (s.sendAnswer = .wouldBlock → exec i s = .next (s.afterSend b)) ∧
      (s.sendAnswer = .ok → exec i s = .next { s.afterSend b with io := .recv }) ∧
      (∀ e, s.sendAnswer = .err e →
        exec i s = .next { s.afterSend b with status := .err e, phase := .idle })) ∧
    (¬(s.io = .send ∧ s.out = some b) → exec i s = .refused .notEnabled)

/-! ### Transport steps -/

/-- From R51 and R52, as the model has them: an attempt is observed with its byte and answer, takes the answer
from the script or a free draw, and changes nothing else. -/
def Obligations.AttemptsTouchNoRegister : Prop :=
  ∀ (s : State) (b : Byte),
    SameBlock s (s.afterSend b) ∧ (s.afterSend b).trace = s.trace ++ [.send b s.sendAnswer] ∧
    (s.afterSend b).tokenPort = s.tokenPort ∧ (s.afterSend b).recvScript = s.recvScript ∧
    (∀ a as, s.sendScript = a :: as → s.sendAnswer = a ∧ (s.afterSend b).sendScript = as) ∧
    SameBlock s s.afterRecv ∧ s.afterRecv.trace = s.trace ++ [.recv s.recvAnswer] ∧
    s.afterRecv.tokenPort = s.tokenPort ∧ s.afterRecv.sendScript = s.sendScript ∧
    (∀ a as, s.recvScript = a :: as → s.recvAnswer = a ∧ s.afterRecv.recvScript = as)

/-- R100: SEND-ATTEMPT, in every state where it is enabled. -/
def Obligations.SendAttemptStep : Prop :=
  ∀ (s : State) (b : Byte), s.symPort = none → s.io = .send → s.out = some b →
    (s.sendAnswer = .wouldBlock → step s = .next (s.afterSend b)) ∧
    (s.sendAnswer = .ok → step s = .next { s.afterSend b with io := .recv }) ∧
    (∀ e, s.sendAnswer = .err e →
      step s = .next { s.afterSend b with status := .err e, phase := .idle })

/-- R33: the current output byte, and the phases that have one. -/
def Obligations.OutputByte : Prop :=
  ∀ s : State,
    (s.phase = .preflush → s.out = some 0x00) ∧ (s.phase = .flush → s.out = some 0x00) ∧
    (s.phase = .enc → s.bsel = 0 → s.out = some (s.acc.extractLsb' 8 8)) ∧
    (s.phase = .enc → s.bsel = 1 → s.out = some (s.acc.extractLsb' 0 8)) ∧
    (s.tokenReady = true ↔ s.out = none)

/-- From R101 and R54: a drain answered WouldBlock is tried again; whatever else is answered is discarded,
and a value and an error lead to the same registers. -/
def Obligations.DrainStep : Prop :=
  ∀ s : State, s.symPort = none → s.sending = true → s.io = .recv →
    (s.recvAnswer = .wouldBlock → step s = .next s.afterRecv) ∧
    (s.recvAnswer ≠ .wouldBlock → ∃ t, step s = .next t ∧ SameBlock (advance s) t ∧
      t.trace = s.trace ++ [.recv s.recvAnswer] ∧ t.recvScript = s.recvScript.tail ∧
      t.sendScript = s.sendScript ∧ t.tokenPort = s.tokenPort)

/-- R102: the four cases of ENC-ADVANCE. -/
def Obligations.EncAdvanceStep : Prop :=
  ∀ s : State, s.symPort = none → s.phase = .enc → s.io = .recv → s.recvAnswer ≠ .wouldBlock →
    (s.bsel = 0 → step s = .next { s.afterRecv with bsel := 1, io := .send }) ∧
    (s.bsel = 1 → s.half = 0 →
      step s = .next
        { s.afterRecv with half := 1, acc := buildAcc s.chan 1, bsel := 0, io := .send }) ∧
    (s.bsel = 1 → s.half = 1 → s.cidx = 0 →
      step s = .next
        { s.afterRecv with cidx := 1, chan := s.rgb.extractLsb' 8 8, half := 0,
                           acc := buildAcc (s.rgb.extractLsb' 8 8) 0, bsel := 0, io := .send }) ∧
    (s.bsel = 1 → s.half = 1 → s.cidx = 1 →
      step s = .next
        { s.afterRecv with cidx := 2, chan := s.rgb.extractLsb' 0 8, half := 0,
                           acc := buildAcc (s.rgb.extractLsb' 0 8) 0, bsel := 0, io := .send }) ∧
    (s.bsel = 1 → s.half = 1 → s.cidx = 2 → step s = .next { s.afterRecv with phase := .wait })

/-- From R133: the pre-frame flush counts its slots and ends in WAIT after the 20th. -/
def Obligations.PreFlushStep : Prop :=
  ∀ s : State, s.symPort = none → s.phase = .preflush → s.io = .recv → s.recvAnswer ≠ .wouldBlock →
    (s.fcnt = 19 → step s = .next { s.afterRecv with fcnt := 20, phase := .wait }) ∧
    (s.fcnt.toNat < 19 → step s = .next { s.afterRecv with fcnt := s.fcnt + 1, io := .send })

/-- From R137 and R138: the frame trailer counts its slots, and the 20th drain completes the write. -/
def Obligations.TrailerStep : Prop :=
  ∀ s : State, s.symPort = none → s.phase = .flush → s.io = .recv → s.recvAnswer ≠ .wouldBlock →
    (s.fcnt = 19 → step s = .next { s.afterRecv with fcnt := 20, phase := .idle, status := .ok }) ∧
    (s.fcnt.toNat < 19 → step s = .next { s.afterRecv with fcnt := s.fcnt + 1, io := .send })

/-- From R53 and R196: while the transport answers WouldBlock, the same byte is offered again and no register
changes, however long that lasts. -/
def Obligations.SendRetried : Prop :=
  ∀ (n : Nat) (s : State) (b : Byte) (as : List SendAnswer), s.symPort = none → s.io = .send →
    s.out = some b → s.sendScript = List.replicate n .wouldBlock ++ as →
    ∃ t, Reaches s n t ∧ SameBlock s t ∧ t.sendScript = as ∧ t.recvScript = s.recvScript ∧
      t.tokenPort = s.tokenPort ∧ t.trace = s.trace ++ List.replicate n (.send b .wouldBlock)

/-- From R54 and R197: while the transport answers WouldBlock, the drain is tried again and no register
changes, however long that lasts. -/
def Obligations.DrainRetried : Prop :=
  ∀ (n : Nat) (s : State) (as : List RecvAnswer), s.symPort = none → s.sending = true → s.io = .recv →
    s.recvScript = List.replicate n .wouldBlock ++ as →
    ∃ t, Reaches s n t ∧ SameBlock s t ∧ t.recvScript = as ∧ t.sendScript = s.sendScript ∧
      t.tokenPort = s.tokenPort ∧ t.trace = s.trace ++ List.replicate n (.recv .wouldBlock)

/-- From R174 and R177: an abort keeps the error, ends the write, writes no other register, and after it
nothing is observed in any run before a START is accepted. -/
def Obligations.AbortOnSendError : Prop :=
  ∀ (s : State) (b : Byte) (e : TransportErr), s.symPort = none → s.io = .send → s.out = some b →
    s.sendAnswer = .err e →
    ∃ t, step s = .next t ∧ SameBlock { s with status := .err e, phase := .idle } t ∧
      t.tokenPort = s.tokenPort ∧ t.recvScript = s.recvScript ∧
      t.trace = s.trace ++ [.send b (.err e)] ∧
      (∀ u, step t = .next u → attempts u.trace = attempts t.trace) ∧
      ∀ k u, Reaches t k u →
        u.trace = t.trace ∨ ∃ evs, u.trace = t.trace ++ .accept .start :: evs

/-! ### The step as a whole -/

/-- From R130: the step is the meaning of the instruction its port holds. A token is taken off the port
first; a transport byte is where it is; the bench port's symbol is the model's own (log 5). -/
def Obligations.StepRunsDecodedInstruction : Prop :=
  ∀ (s : State) (i : Instr),
    (∀ w ws, s.symPort = none → s.tokenReady = true → s.tokenPort = w :: ws →
      decodeToken w = .ok i → step s = exec i { s with tokenPort := ws }) ∧
    (∀ b, s.symPort = none → s.io = .send → s.out = some b → decodeByte b = .ok i →
      step s = exec i s) ∧
    (∀ n, s.symPort = some n → decodeSymbol n = .ok i → step s = exec i { s with symPort := none })

/-- The machine's invariant is kept by every step (R21, R24, R27, R29 to R31, R133). -/
def Obligations.InvariantKept : Prop :=
  ∀ s t : State, s.Inv → step s = .next t → t.Inv

/-- From R64 with R55 and R62: the order of attempts at the transport port is kept by every step. -/
def Obligations.PortOrderKept : Prop :=
  ∀ s t : State, s.PortInv → step s = .next t → t.PortInv

/-- Both invariants hold after reset (R190; the registers R190 leaves unspecified have the model's values,
log 7). -/
def Obligations.InvariantsAtReset : Prop :=
  State.reset.phase = .idle ∧ State.reset.status = .none ∧ State.reset.trace = [] ∧
    State.reset.Inv ∧ State.reset.PortInv

/-- R82: every byte offered is in the output alphabet, and no symbol byte is the flush byte. -/
def Obligations.OutputAlphabet : Prop :=
  (∀ s t : State, s.Inv → alphabetKept s.trace → step s = .next t → alphabetKept t.trace) ∧
  ∀ v : Byte, ∀ b ∈ encodeChannel v, b ≠ 0x00 ∧ b.getLsbD 7 = true

/-- From R178, R138 and R174: a step that ends a write either completes it, after the 20th trailer drain,
or aborts it, on an error of the send it attempts. -/
def Obligations.WriteEndings : Prop :=
  ∀ s t : State, s.symPort = none → s.phase ≠ .idle → step s = .next t → t.phase = .idle →
    (t.status = .ok ∧ s.phase = .flush ∧ s.io = .recv ∧ s.fcnt = 19 ∧ s.recvAnswer ≠ .wouldBlock) ∨
    ∃ e, t.status = .err e ∧ s.io = .send ∧ s.sendAnswer = .err e

/-- From R31: the status port changes only at a START accepted, a write completed or a write aborted. -/
def Obligations.StatusChanges : Prop :=
  ∀ s t : State, step s = .next t → t.status ≠ s.status →
    (s.phase = .idle ∧ t.status = .busy ∧ t.trace = s.trace ++ [.accept .start]) ∨
    (s.phase = .flush ∧ t.phase = .idle ∧ t.status = .ok) ∨
    ∃ b e, t.phase = .idle ∧ t.status = .err e ∧ t.trace = s.trace ++ [.send b (.err e)]

/-- From R191 and R192: a reset, at any moment, leaves IDLE and NONE, makes no attempt and takes no token,
the next step makes no attempt, and nothing is observed in any run before a START is accepted. -/
def Obligations.ResetEndsWrite : Prop :=
  ∀ s : State,
    s.hardReset.phase = .idle ∧ s.hardReset.status = .none ∧ s.hardReset.trace = s.trace ∧
    s.hardReset.tokenPort = s.tokenPort ∧
    (∀ u, step s.hardReset = .next u → attempts u.trace = attempts s.trace) ∧
    ∀ k u, Reaches s.hardReset k u →
      u.trace = s.trace ∨ ∃ evs, u.trace = s.trace ++ .accept .start :: evs

/-- From R191: in a run from IDLE nothing is observed before a START is accepted. -/
def Obligations.NothingBeforeStart : Prop :=
  ∀ (s t : State) (k : Nat), s.symPort = none → s.phase = .idle → Reaches s k t →
    t.trace = s.trace ∨ ∃ evs, t.trace = s.trace ++ .accept .start :: evs

/-- From R21, R40 and R190: registers to which the phase gives no meaning cannot be observed. Two states
that differ in them alone run alike, step for step, also into a refusal. In IDLE these are all eight
registers that reset leaves unspecified. -/
def Obligations.UnspecifiedUnobservable : Prop :=
  ∀ (k : Nat) (s t : State), Agree s t →
    (∀ s', Reaches s k s' → ∃ t', Reaches t k t' ∧ Agree s' t') ∧
    ∀ r, Host.Core.run Sys2Proof.core k s = .refused r → Host.Core.run Sys2Proof.core k t = .refused r

/-- From R9: the block never builds, inspects or compares an error value. Renaming the errors of the
script renames them in what follows and changes nothing else. -/
def Obligations.ErrorsPassedVerbatim : Prop :=
  ∀ (f : TransportErr → TransportErr) (s : State), s.sendScript ≠ [] → s.recvScript ≠ [] →
    step (s.mapErr f) = mapResult (State.mapErr f) (step s)

/-- From R101 and R54: what a drain returns, value or error, has no effect but its own record. -/
def Obligations.DrainedValueUnread : Prop :=
  ∀ (d : RecvAnswer) (s : State), d ≠ .wouldBlock → s.recvScript ≠ [] →
    step (s.blankDrains d) = mapResult (State.blankDrains d) (step s)

/-- From R102: no branch of the encoder depends on a channel value. -/
def Obligations.PositionIndependentOfColour : Prop :=
  ∀ s t s' : State, s.symPort = none → t.symPort = none → s.sending = true → SamePosition s t →
    step s = .next s' → ∃ t', step t = .next t' ∧ SamePosition s' t'

/-! ### Composite operations and whole writes -/

/-- R55: the steps from an offered byte do what `ByteSlot` says under the answers to come. -/
def Obligations.ByteSlotRefined : Prop :=
  ∀ (s : State) (b : Byte), s.symPort = none → s.io = .send → s.out = some b →
    ((byteSlot b s.sendScript s.recvScript).ending = .done →
      ∃ k t, Reaches s k t ∧ SameBlock (advance { s with io := .recv }) t ∧ t.tokenPort = s.tokenPort ∧
        t.trace = s.trace ++ (byteSlot b s.sendScript s.recvScript).events ∧
        t.sendScript = (byteSlot b s.sendScript s.recvScript).sends ∧
        t.recvScript = (byteSlot b s.sendScript s.recvScript).recvs) ∧
    ∀ e, (byteSlot b s.sendScript s.recvScript).ending = .failed e →
      ∃ k t, Reaches s k t ∧ t.phase = .idle ∧ t.status = .err e ∧ t.tokenPort = s.tokenPort ∧
        t.trace = s.trace ++ (byteSlot b s.sendScript s.recvScript).events ∧
        t.sendScript = (byteSlot b s.sendScript s.recvScript).sends ∧
        t.recvScript = (byteSlot b s.sendScript s.recvScript).recvs

/-- R105: a COLOR taken in WAIT is encoded as its 12 bytes in order and ends in WAIT, or in an
abort at the first send that fails. -/
def Obligations.ColourEncoded : Prop :=
  ∀ (s : State) (c : Colour) (ws : List Token) (x : Transfer), s.symPort = none → s.phase = .wait →
    s.tokenPort = tokenWords [.color c.1 c.2.1 c.2.2] ++ ws →
    x = byteSlots (encodeChannel c.1 ++ (encodeChannel c.2.1 ++ encodeChannel c.2.2))
      s.sendScript s.recvScript →
    (x.ending = .done →
      ∃ k t, Reaches s k t ∧ t.phase = .wait ∧ t.status = s.status ∧ t.tokenPort = ws ∧
        t.trace = s.trace ++ .accept (.color c.1 c.2.1 c.2.2) :: x.events ∧
        t.sendScript = x.sends ∧ t.recvScript = x.recvs) ∧
    ∀ e, x.ending = .failed e →
      ∃ k t, Reaches s k t ∧ t.phase = .idle ∧ t.status = .err e ∧ t.tokenPort = ws ∧
        t.trace = s.trace ++ .accept (.color c.1 c.2.1 c.2.2) :: x.events ∧
        t.sendScript = x.sends ∧ t.recvScript = x.recvs

/-- From R140 and R144: a whole write, under any answers, does the byte slots of the frame function in
order, and ends in OK after the last or in ERR at the first that fails. -/
def Obligations.WriteRefinesFrame : Prop :=
  ∀ (s : State) (cs : List Colour) (ws : List Token) (x : Transfer), s.symPort = none →
    s.phase = .idle → s.tokenPort = tokenWords (frameInstrs cs) ++ ws →
    x = byteSlots (frameBytes Config.idleHigh cs) s.sendScript s.recvScript →
    (x.ending = .done →
      ∃ k t evs, Reaches s k t ∧ t.phase = .idle ∧ t.status = .ok ∧ t.tokenPort = ws ∧
        t.trace = s.trace ++ evs ∧ attempts evs = x.events ∧ acceptedTokens evs = frameInstrs cs ∧
        t.sendScript = x.sends ∧ t.recvScript = x.recvs) ∧
    ∀ e, x.ending = .failed e →
      ∃ k t evs, Reaches s k t ∧ t.phase = .idle ∧ t.status = .err e ∧
        t.trace = s.trace ++ evs ∧ attempts evs = x.events ∧ acceptedTokens evs <+: frameInstrs cs ∧
        t.tokenPort = tokenWords ((frameInstrs cs).drop (acceptedTokens evs).length) ++ ws ∧
        t.sendScript = x.sends ∧ t.recvScript = x.recvs

/-- R140 and R141: under a transport that fails no send and answers each operation in the end, the
write completes with OK, its bytes are the frame function's, and each send is followed by one drain. -/
def Obligations.FrameCompletes : Prop :=
  ∀ (s : State) (cs : List Colour) (ns : List Nat) (ds : List (Nat × RecvAnswer)) (ws : List Token)
    (as : List SendAnswer) (rs : List RecvAnswer), s.symPort = none → s.phase = .idle →
    s.tokenPort = tokenWords (frameInstrs cs) ++ ws →
    s.sendScript = liveSends ns ++ as → s.recvScript = liveDrains ds ++ rs →
    ns.length = (frameBytes Config.idleHigh cs).length →
    ds.length = (frameBytes Config.idleHigh cs).length → (∀ d ∈ ds, d.2 ≠ .wouldBlock) →
    ∃ k t evs, Reaches s k t ∧ t.phase = .idle ∧ t.status = .ok ∧ t.tokenPort = ws ∧
      t.sendScript = as ∧ t.recvScript = rs ∧ t.trace = s.trace ++ evs ∧
      sentBytes evs = frameBytes Config.idleHigh cs ∧
      offeredBytes evs = frameBytes Config.idleHigh cs ∧
      (sentBytes evs).length = 12 * cs.length + 20 + (if Config.idleHigh then 20 else 0) ∧
      drainCount evs = (sentBytes evs).length ∧ slotAfter evs = some .ready

/-- R144: when the k-th send of a write fails, the bytes offered are the first k of the frame, the sends
before it were accepted and drained, and the write is over with the error on the status port. After that
nothing is observed in any run before a START is accepted, and none of that write's tokens is accepted:
while some are left there is no step, so a START accepted is a later write's. -/
def Obligations.FrameAborts : Prop :=
  ∀ (s : State) (cs : List Colour) (ns : List Nat) (ds : List (Nat × RecvAnswer)) (n : Nat)
    (e : TransportErr) (ws : List Token) (as : List SendAnswer) (rs : List RecvAnswer),
    s.symPort = none → s.phase = .idle → s.tokenPort = tokenWords (frameInstrs cs) ++ ws →
    s.sendScript = liveSends ns ++ (List.replicate n .wouldBlock ++ .err e :: as) →
    s.recvScript = liveDrains ds ++ rs → ds.length = ns.length →
    ns.length < (frameBytes Config.idleHigh cs).length → (∀ d ∈ ds, d.2 ≠ .wouldBlock) →
    ∃ k t evs, Reaches s k t ∧ t.phase = .idle ∧ t.status = .err e ∧
      t.sendScript = as ∧ t.recvScript = rs ∧ t.trace = s.trace ++ evs ∧
      offeredBytes evs = (frameBytes Config.idleHigh cs).take (ns.length + 1) ∧
      sentBytes evs = (frameBytes Config.idleHigh cs).take ns.length ∧
      drainCount evs = ns.length ∧ slotAfter evs = some .ready ∧
      acceptedTokens evs <+: frameInstrs cs ∧
      (∀ u, step t = .next u →
        attempts u.trace = attempts t.trace ∧ acceptedTokens evs = frameInstrs cs) ∧
      ∀ j u, Reaches t j u → u.trace = t.trace ∨
        (acceptedTokens evs = frameInstrs cs ∧ ∃ later, u.trace = t.trace ++ .accept .start :: later)

/-- From R140, R143 and R144, for every transport: at every moment of a write the bytes offered are a
prefix of the frame, and a write that ends in OK has had all of them accepted (R138). -/
def Obligations.OfferedIsFramePrefix : Prop :=
  ∀ (s t : State) (cs : List Colour) (k : Nat), s.symPort = none → s.phase = .idle →
    s.tokenPort = tokenWords (frameInstrs cs) → Reaches s k t →
    ∃ evs, t.trace = s.trace ++ evs ∧ offeredBytes evs <+: frameBytes Config.idleHigh cs ∧
      acceptedTokens evs <+: frameInstrs cs ∧
      (0 < k → t.phase = .idle → t.status = .ok → sentBytes evs = frameBytes Config.idleHigh cs)

/-- From R143: with no END offered the trailer never starts, the status stays BUSY unless a send fails, and the
bytes are a prefix of the frame without its trailer. -/
def Obligations.EndlessFrame : Prop :=
  ∀ (s t : State) (cs : List Colour) (k : Nat), s.symPort = none → s.phase = .idle →
    s.tokenPort = tokenWords (openFrame cs) → Reaches s k t → 0 < k →
    t.phase ≠ .flush ∧ (t.status = .busy ∨ ∃ e, t.status = .err e) ∧
    ∃ evs, t.trace = s.trace ++ evs ∧
      offeredBytes evs <+: preFlush Config.idleHigh ++ cs.flatMap encodeColour

/-- From R145: two writes of one colour list, from any two IDLE states and under any two transports that fail
no send and answer in the end, are both carried through, every token of them accepted, and send the same
bytes. -/
def Obligations.WritesIdempotent : Prop :=
  ∀ (s1 s2 : State) (cs : List Colour) (ns1 ns2 : List Nat) (ds1 ds2 : List (Nat × RecvAnswer))
    (ws1 ws2 : List Token),
    (s1.symPort = none ∧ s1.phase = .idle ∧ s1.tokenPort = tokenWords (frameInstrs cs) ++ ws1 ∧
      s1.sendScript = liveSends ns1 ∧ s1.recvScript = liveDrains ds1) →
    (s2.symPort = none ∧ s2.phase = .idle ∧ s2.tokenPort = tokenWords (frameInstrs cs) ++ ws2 ∧
      s2.sendScript = liveSends ns2 ∧ s2.recvScript = liveDrains ds2) →
    (∀ l ∈ [ns1.length, ns2.length, ds1.length, ds2.length],
      l = (frameBytes Config.idleHigh cs).length) →
    (∀ d ∈ ds1 ++ ds2, d.2 ≠ .wouldBlock) →
    ∃ k1 t1 evs1 k2 t2 evs2,
      (Reaches s1 k1 t1 ∧ t1.trace = s1.trace ++ evs1 ∧ acceptedTokens evs1 = frameInstrs cs ∧
        t1.tokenPort = ws1 ∧ t1.phase = .idle ∧ t1.status = .ok) ∧
      (Reaches s2 k2 t2 ∧ t2.trace = s2.trace ++ evs2 ∧ acceptedTokens evs2 = frameInstrs cs ∧
        t2.tokenPort = ws2 ∧ t2.phase = .idle ∧ t2.status = .ok) ∧
      sentBytes evs1 = sentBytes evs2 ∧ offeredBytes evs1 = offeredBytes evs2

/-- From R142 for the frame function, with the count law of R141: its length for every colour list. -/
def Obligations.FrameLength : Prop :=
  frameBytes false [] = List.replicate 20 0x00 ∧ frameBytes true [] = List.replicate 40 0x00 ∧
  ∀ (idleHigh : Bool) (cs : List Colour),
    (frameBytes idleHigh cs).length = 12 * cs.length + 20 + (if idleHigh then 20 else 0)

/-- From R203: under TRANSPORT_LIVE, with the tokens of a finite colour list and END on the port, a write
in progress ends. -/
def Obligations.LiveWriteEnds : Prop :=
  ∀ (s : State) (cs : List Colour) (ws : List Token), s.Inv → s.phase ≠ .idle → TransportLive s →
    (s.phase ≠ .flush →
      s.tokenPort = tokenWords (cs.map (fun c => .color c.1 c.2.1 c.2.2) ++ [.finish]) ++ ws) →
    ∃ k t, Reaches s k t ∧ t.phase = .idle

/-- From R203: the tokens of a whole write on the port meet HOST_LIVE, whatever the transport does. -/
def Obligations.WholeWriteIsHostLive : Prop :=
  ∀ (s : State) (cs : List Colour), s.symPort = none → s.phase = .idle →
    s.tokenPort = tokenWords (frameInstrs cs) → HostLive s

/-! ### The wire -/

/-- From R57, R77 and R106: sent most significant bit first, the bytes of any channel values are the
values' symbols in order, bit 7 first. -/
def Obligations.WireSymbols : Prop :=
  ∀ vs : List Byte, wireStream (vs.flatMap encodeChannel) = (vs.flatMap wireBits).flatMap symbolWire

/-- From R202: the low bits that end a frame: 160 of the trailer, and the 2 or 3 that end the last
symbol. -/
def Obligations.TrailerLowBits : Prop :=
  (∀ idleHigh : Bool, trailingLow (frameBytes idleHigh []) = if idleHigh then 320 else 160) ∧
  ∀ (idleHigh : Bool) (cs : List Colour) (r g b : Byte),
    trailingLow (frameBytes idleHigh (cs ++ [(r, g, b)])) = 160 + lowCycles (b.getLsbD 0)

/-- From R201 and R202: the durations in ns at a clock of `f` MHz, the bit time being `1 / f` µs, and the
symbol rate in kHz. -/
def Obligations.SymbolTimes : Prop :=
  ∀ (f : ℚ) (bit : Bool) (c : Colour), f ≠ 0 →
    bitTime f * f = 1000 ∧ symbolPeriod f = 4 * bitTime f ∧ 4 * symbolRate f = 1000 * f ∧
    symbolRate f * symbolPeriod f = 1000000 ∧
    highTime bit f + lowTime bit f = symbolPeriod f ∧ highTime false f = bitTime f ∧
    lowTime false f = 3 * bitTime f ∧ highTime true f = 2 * bitTime f ∧
    lowTime true f = 2 * bitTime f ∧ wireTime (encodeColour c) f = 96 * bitTime f ∧
    wireTime flushRun f = 160 * bitTime f
end

