-- ==== Sys2Proof/Laws/Decode.lean ====
section
/-! SUPPORT. The fields of a token word: what they read of an assembled word, and that they make up the
word (R71, R72). -/

namespace Sys2Proof

theorem tokenOp_tokenWord (op : Byte) (p : Rgb) : tokenOp (tokenWord op p) = op := by
  unfold tokenOp tokenWord
  ext i hi
  interval_cases i <;> simp

theorem tokenPayload_tokenWord (op : Byte) (p : Rgb) : tokenPayload (tokenWord op p) = p := by
  unfold tokenPayload tokenWord
  ext i hi
  interval_cases i <;> simp

theorem tokenRed_tokenWord (op r g b : Byte) :
    tokenRed (tokenWord op (colourPayload r g b)) = r := by
  unfold tokenRed tokenWord colourPayload
  ext i hi
  interval_cases i <;> simp

theorem tokenGreen_tokenWord (op r g b : Byte) :
    tokenGreen (tokenWord op (colourPayload r g b)) = g := by
  unfold tokenGreen tokenWord colourPayload
  ext i hi
  interval_cases i <;> simp

theorem tokenBlue_tokenWord (op r g b : Byte) :
    tokenBlue (tokenWord op (colourPayload r g b)) = b := by
  unfold tokenBlue tokenWord colourPayload
  ext i hi
  interval_cases i <;> simp

/-- A token word is its opcode and its payload. -/
theorem tokenWord_split (w : Token) : tokenWord (tokenOp w) (tokenPayload w) = w := by
  unfold tokenWord tokenOp tokenPayload
  ext i hi
  interval_cases i <;> simp

/-- A payload is its three channel fields. -/
theorem colourPayload_split (w : Token) :
    colourPayload (tokenRed w) (tokenGreen w) (tokenBlue w) = tokenPayload w := by
  unfold colourPayload tokenRed tokenGreen tokenBlue tokenPayload
  ext i hi
  interval_cases i <;> simp

end Sys2Proof
end

