-- ==== Sys2Proof/Laws/Operands.lean ====
section
/-! SUPPORT. The operands: a colour's channels come back from its payload, a group's accumulator splits
into its two transport bytes, and the bytes of a channel (R27, R78 to R80). -/

namespace Sys2Proof.Machine

theorem channel_red (r g b : Byte) : channel (colourPayload r g b) 0 = r := by
  simp only [channel, colourPayload, if_true]
  ext i hi
  interval_cases i <;> simp

/-- The same with the index as `simp` writes it. -/
@[simp] theorem channel_red_ofNat (r g b : Byte) : channel (colourPayload r g b) 0#2 = r :=
  channel_red r g b

theorem channel_green (r g b : Byte) : channel (colourPayload r g b) 1 = g := by
  simp only [channel, colourPayload]
  ext i hi
  interval_cases i <;> simp

/-- The same with the index as `simp` writes it. -/
@[simp] theorem channel_green_ofNat (r g b : Byte) : channel (colourPayload r g b) 1#2 = g :=
  channel_green r g b

theorem channel_blue (r g b : Byte) : channel (colourPayload r g b) 2 = b := by
  simp only [channel, colourPayload]
  ext i hi
  interval_cases i <;> simp

/-- The same with the index as `simp` writes it. -/
@[simp] theorem channel_blue_ofNat (r g b : Byte) : channel (colourPayload r g b) 2#2 = b :=
  channel_blue r g b

/-- The two transport bytes of the first group (R79). -/
theorem accBytes_first (v : Byte) :
    accHigh (buildAcc v 0) = transportByte (v.getLsbD 7) (v.getLsbD 6) ∧
    accLow (buildAcc v 0) = transportByte (v.getLsbD 5) (v.getLsbD 4) := by
  rw [buildAcc, groupBits, if_pos rfl]
  cases v.getLsbD 7 <;> cases v.getLsbD 6 <;> cases v.getLsbD 5 <;> cases v.getLsbD 4 <;> decide

/-- The two transport bytes of the second group (R79). -/
theorem accBytes_second (v : Byte) :
    accHigh (buildAcc v 1) = transportByte (v.getLsbD 3) (v.getLsbD 2) ∧
    accLow (buildAcc v 1) = transportByte (v.getLsbD 1) (v.getLsbD 0) := by
  rw [buildAcc, groupBits, if_neg (by decide)]
  cases v.getLsbD 3 <;> cases v.getLsbD 2 <;> cases v.getLsbD 1 <;> cases v.getLsbD 0 <;> decide

end Sys2Proof.Machine
end

