-- ==== Sys2Proof/Laws/State.lean ====
section
/-! SUPPORT. Each field after each update of the state, by unfolding the update once. -/

namespace Sys2Proof.Machine

@[simp] theorem markBusy_phase (s : State) :
    s.markBusy.phase = s.phase := rfl
@[simp] theorem markBusy_io (s : State) :
    s.markBusy.io = s.io := rfl
@[simp] theorem markBusy_cidx (s : State) :
    s.markBusy.cidx = s.cidx := rfl
@[simp] theorem markBusy_half (s : State) :
    s.markBusy.half = s.half := rfl
@[simp] theorem markBusy_bsel (s : State) :
    s.markBusy.bsel = s.bsel := rfl
@[simp] theorem markBusy_chan (s : State) :
    s.markBusy.chan = s.chan := rfl
@[simp] theorem markBusy_rgb (s : State) :
    s.markBusy.rgb = s.rgb := rfl
@[simp] theorem markBusy_acc (s : State) :
    s.markBusy.acc = s.acc := rfl
@[simp] theorem markBusy_fcnt (s : State) :
    s.markBusy.fcnt = s.fcnt := rfl
@[simp] theorem markBusy_status (s : State) :
    s.markBusy.status = .busy := rfl
@[simp] theorem markBusy_tokenPort (s : State) :
    s.markBusy.tokenPort = s.tokenPort := rfl
@[simp] theorem markBusy_sendScript (s : State) :
    s.markBusy.sendScript = s.sendScript := rfl
@[simp] theorem markBusy_recvScript (s : State) :
    s.markBusy.recvScript = s.recvScript := rfl
@[simp] theorem markBusy_draws (s : State) :
    s.markBusy.draws = s.draws := rfl
@[simp] theorem markBusy_trace (s : State) :
    s.markBusy.trace = s.trace := rfl
@[simp] theorem markBusy_symPort (s : State) :
    s.markBusy.symPort = s.symPort := rfl

@[simp] theorem markOk_phase (s : State) :
    s.markOk.phase = s.phase := rfl
@[simp] theorem markOk_io (s : State) :
    s.markOk.io = s.io := rfl
@[simp] theorem markOk_cidx (s : State) :
    s.markOk.cidx = s.cidx := rfl
@[simp] theorem markOk_half (s : State) :
    s.markOk.half = s.half := rfl
@[simp] theorem markOk_bsel (s : State) :
    s.markOk.bsel = s.bsel := rfl
@[simp] theorem markOk_chan (s : State) :
    s.markOk.chan = s.chan := rfl
@[simp] theorem markOk_rgb (s : State) :
    s.markOk.rgb = s.rgb := rfl
@[simp] theorem markOk_acc (s : State) :
    s.markOk.acc = s.acc := rfl
@[simp] theorem markOk_fcnt (s : State) :
    s.markOk.fcnt = s.fcnt := rfl
@[simp] theorem markOk_status (s : State) :
    s.markOk.status = .ok := rfl
@[simp] theorem markOk_tokenPort (s : State) :
    s.markOk.tokenPort = s.tokenPort := rfl
@[simp] theorem markOk_sendScript (s : State) :
    s.markOk.sendScript = s.sendScript := rfl
@[simp] theorem markOk_recvScript (s : State) :
    s.markOk.recvScript = s.recvScript := rfl
@[simp] theorem markOk_draws (s : State) :
    s.markOk.draws = s.draws := rfl
@[simp] theorem markOk_trace (s : State) :
    s.markOk.trace = s.trace := rfl
@[simp] theorem markOk_symPort (s : State) :
    s.markOk.symPort = s.symPort := rfl

@[simp] theorem markErr_phase (e : TransportErr) (s : State) :
    (s.markErr e).phase = s.phase := rfl
@[simp] theorem markErr_io (e : TransportErr) (s : State) :
    (s.markErr e).io = s.io := rfl
@[simp] theorem markErr_cidx (e : TransportErr) (s : State) :
    (s.markErr e).cidx = s.cidx := rfl
@[simp] theorem markErr_half (e : TransportErr) (s : State) :
    (s.markErr e).half = s.half := rfl
@[simp] theorem markErr_bsel (e : TransportErr) (s : State) :
    (s.markErr e).bsel = s.bsel := rfl
@[simp] theorem markErr_chan (e : TransportErr) (s : State) :
    (s.markErr e).chan = s.chan := rfl
@[simp] theorem markErr_rgb (e : TransportErr) (s : State) :
    (s.markErr e).rgb = s.rgb := rfl
@[simp] theorem markErr_acc (e : TransportErr) (s : State) :
    (s.markErr e).acc = s.acc := rfl
@[simp] theorem markErr_fcnt (e : TransportErr) (s : State) :
    (s.markErr e).fcnt = s.fcnt := rfl
@[simp] theorem markErr_status (e : TransportErr) (s : State) :
    (s.markErr e).status = .err e := rfl
@[simp] theorem markErr_tokenPort (e : TransportErr) (s : State) :
    (s.markErr e).tokenPort = s.tokenPort := rfl
@[simp] theorem markErr_sendScript (e : TransportErr) (s : State) :
    (s.markErr e).sendScript = s.sendScript := rfl
@[simp] theorem markErr_recvScript (e : TransportErr) (s : State) :
    (s.markErr e).recvScript = s.recvScript := rfl
@[simp] theorem markErr_draws (e : TransportErr) (s : State) :
    (s.markErr e).draws = s.draws := rfl
@[simp] theorem markErr_trace (e : TransportErr) (s : State) :
    (s.markErr e).trace = s.trace := rfl
@[simp] theorem markErr_symPort (e : TransportErr) (s : State) :
    (s.markErr e).symPort = s.symPort := rfl

@[simp] theorem afterSend_phase (b : Byte) (s : State) :
    (s.afterSend b).phase = s.phase := rfl
@[simp] theorem afterSend_io (b : Byte) (s : State) :
    (s.afterSend b).io = s.io := rfl
@[simp] theorem afterSend_cidx (b : Byte) (s : State) :
    (s.afterSend b).cidx = s.cidx := rfl
@[simp] theorem afterSend_half (b : Byte) (s : State) :
    (s.afterSend b).half = s.half := rfl
@[simp] theorem afterSend_bsel (b : Byte) (s : State) :
    (s.afterSend b).bsel = s.bsel := rfl
@[simp] theorem afterSend_chan (b : Byte) (s : State) :
    (s.afterSend b).chan = s.chan := rfl
@[simp] theorem afterSend_rgb (b : Byte) (s : State) :
    (s.afterSend b).rgb = s.rgb := rfl
@[simp] theorem afterSend_acc (b : Byte) (s : State) :
    (s.afterSend b).acc = s.acc := rfl
@[simp] theorem afterSend_fcnt (b : Byte) (s : State) :
    (s.afterSend b).fcnt = s.fcnt := rfl
@[simp] theorem afterSend_status (b : Byte) (s : State) :
    (s.afterSend b).status = s.status := rfl
@[simp] theorem afterSend_tokenPort (b : Byte) (s : State) :
    (s.afterSend b).tokenPort = s.tokenPort := rfl
@[simp] theorem afterSend_sendScript (b : Byte) (s : State) :
    (s.afterSend b).sendScript = s.sendScript.tail := rfl
@[simp] theorem afterSend_recvScript (b : Byte) (s : State) :
    (s.afterSend b).recvScript = s.recvScript := rfl
@[simp] theorem afterSend_draws (b : Byte) (s : State) :
    (s.afterSend b).draws = if s.sendScript = [] then s.draws + 1 else s.draws := rfl
@[simp] theorem afterSend_trace (b : Byte) (s : State) :
    (s.afterSend b).trace = s.trace ++ [.send b s.sendAnswer] := rfl
@[simp] theorem afterSend_symPort (b : Byte) (s : State) :
    (s.afterSend b).symPort = s.symPort := rfl

@[simp] theorem afterRecv_phase (s : State) :
    s.afterRecv.phase = s.phase := rfl
@[simp] theorem afterRecv_io (s : State) :
    s.afterRecv.io = s.io := rfl
@[simp] theorem afterRecv_cidx (s : State) :
    s.afterRecv.cidx = s.cidx := rfl
@[simp] theorem afterRecv_half (s : State) :
    s.afterRecv.half = s.half := rfl
@[simp] theorem afterRecv_bsel (s : State) :
    s.afterRecv.bsel = s.bsel := rfl
@[simp] theorem afterRecv_chan (s : State) :
    s.afterRecv.chan = s.chan := rfl
@[simp] theorem afterRecv_rgb (s : State) :
    s.afterRecv.rgb = s.rgb := rfl
@[simp] theorem afterRecv_acc (s : State) :
    s.afterRecv.acc = s.acc := rfl
@[simp] theorem afterRecv_fcnt (s : State) :
    s.afterRecv.fcnt = s.fcnt := rfl
@[simp] theorem afterRecv_status (s : State) :
    s.afterRecv.status = s.status := rfl
@[simp] theorem afterRecv_tokenPort (s : State) :
    s.afterRecv.tokenPort = s.tokenPort := rfl
@[simp] theorem afterRecv_sendScript (s : State) :
    s.afterRecv.sendScript = s.sendScript := rfl
@[simp] theorem afterRecv_recvScript (s : State) :
    s.afterRecv.recvScript = s.recvScript.tail := rfl
@[simp] theorem afterRecv_draws (s : State) :
    s.afterRecv.draws = if s.recvScript = [] then s.draws + 1 else s.draws := rfl
@[simp] theorem afterRecv_trace (s : State) :
    s.afterRecv.trace = s.trace ++ [.recv s.recvAnswer] := rfl
@[simp] theorem afterRecv_symPort (s : State) :
    s.afterRecv.symPort = s.symPort := rfl

@[simp] theorem raise_phase (e : TransportErr) (s : State) :
    (raiseTransportError e s).phase = .idle := rfl
@[simp] theorem raise_io (e : TransportErr) (s : State) :
    (raiseTransportError e s).io = s.io := rfl
@[simp] theorem raise_cidx (e : TransportErr) (s : State) :
    (raiseTransportError e s).cidx = s.cidx := rfl
@[simp] theorem raise_half (e : TransportErr) (s : State) :
    (raiseTransportError e s).half = s.half := rfl
@[simp] theorem raise_bsel (e : TransportErr) (s : State) :
    (raiseTransportError e s).bsel = s.bsel := rfl
@[simp] theorem raise_chan (e : TransportErr) (s : State) :
    (raiseTransportError e s).chan = s.chan := rfl
@[simp] theorem raise_rgb (e : TransportErr) (s : State) :
    (raiseTransportError e s).rgb = s.rgb := rfl
@[simp] theorem raise_acc (e : TransportErr) (s : State) :
    (raiseTransportError e s).acc = s.acc := rfl
@[simp] theorem raise_fcnt (e : TransportErr) (s : State) :
    (raiseTransportError e s).fcnt = s.fcnt := rfl
@[simp] theorem raise_status (e : TransportErr) (s : State) :
    (raiseTransportError e s).status = .err e := rfl
@[simp] theorem raise_tokenPort (e : TransportErr) (s : State) :
    (raiseTransportError e s).tokenPort = s.tokenPort := rfl
@[simp] theorem raise_sendScript (e : TransportErr) (s : State) :
    (raiseTransportError e s).sendScript = s.sendScript := rfl
@[simp] theorem raise_recvScript (e : TransportErr) (s : State) :
    (raiseTransportError e s).recvScript = s.recvScript := rfl
@[simp] theorem raise_draws (e : TransportErr) (s : State) :
    (raiseTransportError e s).draws = s.draws := rfl
@[simp] theorem raise_trace (e : TransportErr) (s : State) :
    (raiseTransportError e s).trace = s.trace := rfl
@[simp] theorem raise_symPort (e : TransportErr) (s : State) :
    (raiseTransportError e s).symPort = s.symPort := rfl

@[simp] theorem loadGroup_phase (v : Byte) (h : BitVec 1) (s : State) :
    (loadGroup v h s).phase = s.phase := rfl
@[simp] theorem loadGroup_io (v : Byte) (h : BitVec 1) (s : State) :
    (loadGroup v h s).io = .send := rfl
@[simp] theorem loadGroup_cidx (v : Byte) (h : BitVec 1) (s : State) :
    (loadGroup v h s).cidx = s.cidx := rfl
@[simp] theorem loadGroup_half (v : Byte) (h : BitVec 1) (s : State) :
    (loadGroup v h s).half = h := rfl
@[simp] theorem loadGroup_bsel (v : Byte) (h : BitVec 1) (s : State) :
    (loadGroup v h s).bsel = 0 := rfl
@[simp] theorem loadGroup_chan (v : Byte) (h : BitVec 1) (s : State) :
    (loadGroup v h s).chan = s.chan := rfl
@[simp] theorem loadGroup_rgb (v : Byte) (h : BitVec 1) (s : State) :
    (loadGroup v h s).rgb = s.rgb := rfl
@[simp] theorem loadGroup_acc (v : Byte) (h : BitVec 1) (s : State) :
    (loadGroup v h s).acc = buildAcc v h := rfl
@[simp] theorem loadGroup_fcnt (v : Byte) (h : BitVec 1) (s : State) :
    (loadGroup v h s).fcnt = s.fcnt := rfl
@[simp] theorem loadGroup_status (v : Byte) (h : BitVec 1) (s : State) :
    (loadGroup v h s).status = s.status := rfl
@[simp] theorem loadGroup_tokenPort (v : Byte) (h : BitVec 1) (s : State) :
    (loadGroup v h s).tokenPort = s.tokenPort := rfl
@[simp] theorem loadGroup_sendScript (v : Byte) (h : BitVec 1) (s : State) :
    (loadGroup v h s).sendScript = s.sendScript := rfl
@[simp] theorem loadGroup_recvScript (v : Byte) (h : BitVec 1) (s : State) :
    (loadGroup v h s).recvScript = s.recvScript := rfl
@[simp] theorem loadGroup_draws (v : Byte) (h : BitVec 1) (s : State) :
    (loadGroup v h s).draws = s.draws := rfl
@[simp] theorem loadGroup_trace (v : Byte) (h : BitVec 1) (s : State) :
    (loadGroup v h s).trace = s.trace := rfl
@[simp] theorem loadGroup_symPort (v : Byte) (h : BitVec 1) (s : State) :
    (loadGroup v h s).symPort = s.symPort := rfl

@[simp] theorem loadChannel_phase (i : BitVec 2) (c : Rgb) (s : State) :
    (loadChannel i c s).phase = s.phase := rfl
@[simp] theorem loadChannel_io (i : BitVec 2) (c : Rgb) (s : State) :
    (loadChannel i c s).io = .send := rfl
@[simp] theorem loadChannel_cidx (i : BitVec 2) (c : Rgb) (s : State) :
    (loadChannel i c s).cidx = i := rfl
@[simp] theorem loadChannel_half (i : BitVec 2) (c : Rgb) (s : State) :
    (loadChannel i c s).half = 0 := rfl
@[simp] theorem loadChannel_bsel (i : BitVec 2) (c : Rgb) (s : State) :
    (loadChannel i c s).bsel = 0 := rfl
@[simp] theorem loadChannel_chan (i : BitVec 2) (c : Rgb) (s : State) :
    (loadChannel i c s).chan = channel c i := rfl
@[simp] theorem loadChannel_rgb (i : BitVec 2) (c : Rgb) (s : State) :
    (loadChannel i c s).rgb = s.rgb := rfl
@[simp] theorem loadChannel_acc (i : BitVec 2) (c : Rgb) (s : State) :
    (loadChannel i c s).acc = buildAcc (channel c i) 0 := rfl
@[simp] theorem loadChannel_fcnt (i : BitVec 2) (c : Rgb) (s : State) :
    (loadChannel i c s).fcnt = s.fcnt := rfl
@[simp] theorem loadChannel_status (i : BitVec 2) (c : Rgb) (s : State) :
    (loadChannel i c s).status = s.status := rfl
@[simp] theorem loadChannel_tokenPort (i : BitVec 2) (c : Rgb) (s : State) :
    (loadChannel i c s).tokenPort = s.tokenPort := rfl
@[simp] theorem loadChannel_sendScript (i : BitVec 2) (c : Rgb) (s : State) :
    (loadChannel i c s).sendScript = s.sendScript := rfl
@[simp] theorem loadChannel_recvScript (i : BitVec 2) (c : Rgb) (s : State) :
    (loadChannel i c s).recvScript = s.recvScript := rfl
@[simp] theorem loadChannel_draws (i : BitVec 2) (c : Rgb) (s : State) :
    (loadChannel i c s).draws = s.draws := rfl
@[simp] theorem loadChannel_trace (i : BitVec 2) (c : Rgb) (s : State) :
    (loadChannel i c s).trace = s.trace := rfl
@[simp] theorem loadChannel_symPort (i : BitVec 2) (c : Rgb) (s : State) :
    (loadChannel i c s).symPort = s.symPort := rfl

@[simp] theorem latchColour_phase (r g b : Byte) (s : State) :
    (latchColour r g b s).phase = .enc := rfl
@[simp] theorem latchColour_io (r g b : Byte) (s : State) :
    (latchColour r g b s).io = .send := rfl
@[simp] theorem latchColour_cidx (r g b : Byte) (s : State) :
    (latchColour r g b s).cidx = 0 := rfl
@[simp] theorem latchColour_half (r g b : Byte) (s : State) :
    (latchColour r g b s).half = 0 := rfl
@[simp] theorem latchColour_bsel (r g b : Byte) (s : State) :
    (latchColour r g b s).bsel = 0 := rfl
@[simp] theorem latchColour_chan (r g b : Byte) (s : State) :
    (latchColour r g b s).chan = channel (colourPayload r g b) 0 := rfl
@[simp] theorem latchColour_rgb (r g b : Byte) (s : State) :
    (latchColour r g b s).rgb = colourPayload r g b := rfl
@[simp] theorem latchColour_acc (r g b : Byte) (s : State) :
    (latchColour r g b s).acc = buildAcc (channel (colourPayload r g b) 0) 0 := rfl
@[simp] theorem latchColour_fcnt (r g b : Byte) (s : State) :
    (latchColour r g b s).fcnt = s.fcnt := rfl
@[simp] theorem latchColour_status (r g b : Byte) (s : State) :
    (latchColour r g b s).status = s.status := rfl
@[simp] theorem latchColour_tokenPort (r g b : Byte) (s : State) :
    (latchColour r g b s).tokenPort = s.tokenPort := rfl
@[simp] theorem latchColour_sendScript (r g b : Byte) (s : State) :
    (latchColour r g b s).sendScript = s.sendScript := rfl
@[simp] theorem latchColour_recvScript (r g b : Byte) (s : State) :
    (latchColour r g b s).recvScript = s.recvScript := rfl
@[simp] theorem latchColour_draws (r g b : Byte) (s : State) :
    (latchColour r g b s).draws = s.draws := rfl
@[simp] theorem latchColour_trace (r g b : Byte) (s : State) :
    (latchColour r g b s).trace = s.trace := rfl
@[simp] theorem latchColour_symPort (r g b : Byte) (s : State) :
    (latchColour r g b s).symPort = s.symPort := rfl

@[simp] theorem startFlush_phase (p : Phase) (s : State) :
    (startFlush p s).phase = p := rfl
@[simp] theorem startFlush_io (p : Phase) (s : State) :
    (startFlush p s).io = .send := rfl
@[simp] theorem startFlush_cidx (p : Phase) (s : State) :
    (startFlush p s).cidx = s.cidx := rfl
@[simp] theorem startFlush_half (p : Phase) (s : State) :
    (startFlush p s).half = s.half := rfl
@[simp] theorem startFlush_bsel (p : Phase) (s : State) :
    (startFlush p s).bsel = s.bsel := rfl
@[simp] theorem startFlush_chan (p : Phase) (s : State) :
    (startFlush p s).chan = s.chan := rfl
@[simp] theorem startFlush_rgb (p : Phase) (s : State) :
    (startFlush p s).rgb = s.rgb := rfl
@[simp] theorem startFlush_acc (p : Phase) (s : State) :
    (startFlush p s).acc = s.acc := rfl
@[simp] theorem startFlush_fcnt (p : Phase) (s : State) :
    (startFlush p s).fcnt = 0 := rfl
@[simp] theorem startFlush_status (p : Phase) (s : State) :
    (startFlush p s).status = s.status := rfl
@[simp] theorem startFlush_tokenPort (p : Phase) (s : State) :
    (startFlush p s).tokenPort = s.tokenPort := rfl
@[simp] theorem startFlush_sendScript (p : Phase) (s : State) :
    (startFlush p s).sendScript = s.sendScript := rfl
@[simp] theorem startFlush_recvScript (p : Phase) (s : State) :
    (startFlush p s).recvScript = s.recvScript := rfl
@[simp] theorem startFlush_draws (p : Phase) (s : State) :
    (startFlush p s).draws = s.draws := rfl
@[simp] theorem startFlush_trace (p : Phase) (s : State) :
    (startFlush p s).trace = s.trace := rfl
@[simp] theorem startFlush_symPort (p : Phase) (s : State) :
    (startFlush p s).symPort = s.symPort := rfl

@[simp] theorem accept_phase (i : Instr) (s : State) :
    (s.accept i).phase = s.phase := rfl
@[simp] theorem accept_io (i : Instr) (s : State) :
    (s.accept i).io = s.io := rfl
@[simp] theorem accept_cidx (i : Instr) (s : State) :
    (s.accept i).cidx = s.cidx := rfl
@[simp] theorem accept_half (i : Instr) (s : State) :
    (s.accept i).half = s.half := rfl
@[simp] theorem accept_bsel (i : Instr) (s : State) :
    (s.accept i).bsel = s.bsel := rfl
@[simp] theorem accept_chan (i : Instr) (s : State) :
    (s.accept i).chan = s.chan := rfl
@[simp] theorem accept_rgb (i : Instr) (s : State) :
    (s.accept i).rgb = s.rgb := rfl
@[simp] theorem accept_acc (i : Instr) (s : State) :
    (s.accept i).acc = s.acc := rfl
@[simp] theorem accept_fcnt (i : Instr) (s : State) :
    (s.accept i).fcnt = s.fcnt := rfl
@[simp] theorem accept_status (i : Instr) (s : State) :
    (s.accept i).status = s.status := rfl
@[simp] theorem accept_tokenPort (i : Instr) (s : State) :
    (s.accept i).tokenPort = s.tokenPort := rfl
@[simp] theorem accept_sendScript (i : Instr) (s : State) :
    (s.accept i).sendScript = s.sendScript := rfl
@[simp] theorem accept_recvScript (i : Instr) (s : State) :
    (s.accept i).recvScript = s.recvScript := rfl
@[simp] theorem accept_draws (i : Instr) (s : State) :
    (s.accept i).draws = s.draws := rfl
@[simp] theorem accept_trace (i : Instr) (s : State) :
    (s.accept i).trace = s.trace ++ [.accept i] := rfl
@[simp] theorem accept_symPort (i : Instr) (s : State) :
    (s.accept i).symPort = s.symPort := rfl

@[simp] theorem offer_phase (ws : List Token) (s : State) :
    (s.offer ws).phase = s.phase := rfl
@[simp] theorem offer_io (ws : List Token) (s : State) :
    (s.offer ws).io = s.io := rfl
@[simp] theorem offer_cidx (ws : List Token) (s : State) :
    (s.offer ws).cidx = s.cidx := rfl
@[simp] theorem offer_half (ws : List Token) (s : State) :
    (s.offer ws).half = s.half := rfl
@[simp] theorem offer_bsel (ws : List Token) (s : State) :
    (s.offer ws).bsel = s.bsel := rfl
@[simp] theorem offer_chan (ws : List Token) (s : State) :
    (s.offer ws).chan = s.chan := rfl
@[simp] theorem offer_rgb (ws : List Token) (s : State) :
    (s.offer ws).rgb = s.rgb := rfl
@[simp] theorem offer_acc (ws : List Token) (s : State) :
    (s.offer ws).acc = s.acc := rfl
@[simp] theorem offer_fcnt (ws : List Token) (s : State) :
    (s.offer ws).fcnt = s.fcnt := rfl
@[simp] theorem offer_status (ws : List Token) (s : State) :
    (s.offer ws).status = s.status := rfl
@[simp] theorem offer_tokenPort (ws : List Token) (s : State) :
    (s.offer ws).tokenPort = s.tokenPort ++ ws := rfl
@[simp] theorem offer_sendScript (ws : List Token) (s : State) :
    (s.offer ws).sendScript = s.sendScript := rfl
@[simp] theorem offer_recvScript (ws : List Token) (s : State) :
    (s.offer ws).recvScript = s.recvScript := rfl
@[simp] theorem offer_draws (ws : List Token) (s : State) :
    (s.offer ws).draws = s.draws := rfl
@[simp] theorem offer_trace (ws : List Token) (s : State) :
    (s.offer ws).trace = s.trace := rfl
@[simp] theorem offer_symPort (ws : List Token) (s : State) :
    (s.offer ws).symPort = s.symPort := rfl

@[simp] theorem hardReset_phase (s : State) :
    s.hardReset.phase = .idle := rfl
@[simp] theorem hardReset_io (s : State) :
    s.hardReset.io = .send := rfl
@[simp] theorem hardReset_cidx (s : State) :
    s.hardReset.cidx = 0 := rfl
@[simp] theorem hardReset_half (s : State) :
    s.hardReset.half = 0 := rfl
@[simp] theorem hardReset_bsel (s : State) :
    s.hardReset.bsel = 0 := rfl
@[simp] theorem hardReset_chan (s : State) :
    s.hardReset.chan = 0 := rfl
@[simp] theorem hardReset_rgb (s : State) :
    s.hardReset.rgb = 0 := rfl
@[simp] theorem hardReset_acc (s : State) :
    s.hardReset.acc = 0 := rfl
@[simp] theorem hardReset_fcnt (s : State) :
    s.hardReset.fcnt = 0 := rfl
@[simp] theorem hardReset_status (s : State) :
    s.hardReset.status = .none := rfl
@[simp] theorem hardReset_tokenPort (s : State) :
    s.hardReset.tokenPort = s.tokenPort := rfl
@[simp] theorem hardReset_sendScript (s : State) :
    s.hardReset.sendScript = s.sendScript := rfl
@[simp] theorem hardReset_recvScript (s : State) :
    s.hardReset.recvScript = s.recvScript := rfl
@[simp] theorem hardReset_draws (s : State) :
    s.hardReset.draws = s.draws := rfl
@[simp] theorem hardReset_trace (s : State) :
    s.hardReset.trace = s.trace := rfl
@[simp] theorem hardReset_symPort (s : State) :
    s.hardReset.symPort = none := rfl

@[simp] theorem shiftSymbol_phase (bit : Bool) (s : State) :
    (shiftSymbol bit s).phase = s.phase := rfl
@[simp] theorem shiftSymbol_io (bit : Bool) (s : State) :
    (shiftSymbol bit s).io = s.io := rfl
@[simp] theorem shiftSymbol_cidx (bit : Bool) (s : State) :
    (shiftSymbol bit s).cidx = s.cidx := rfl
@[simp] theorem shiftSymbol_half (bit : Bool) (s : State) :
    (shiftSymbol bit s).half = s.half := rfl
@[simp] theorem shiftSymbol_bsel (bit : Bool) (s : State) :
    (shiftSymbol bit s).bsel = s.bsel := rfl
@[simp] theorem shiftSymbol_chan (bit : Bool) (s : State) :
    (shiftSymbol bit s).chan = s.chan := rfl
@[simp] theorem shiftSymbol_rgb (bit : Bool) (s : State) :
    (shiftSymbol bit s).rgb = s.rgb := rfl
@[simp] theorem shiftSymbol_acc (bit : Bool) (s : State) :
    (shiftSymbol bit s).acc = shiftIn s.acc bit := rfl
@[simp] theorem shiftSymbol_fcnt (bit : Bool) (s : State) :
    (shiftSymbol bit s).fcnt = s.fcnt := rfl
@[simp] theorem shiftSymbol_status (bit : Bool) (s : State) :
    (shiftSymbol bit s).status = s.status := rfl
@[simp] theorem shiftSymbol_tokenPort (bit : Bool) (s : State) :
    (shiftSymbol bit s).tokenPort = s.tokenPort := rfl
@[simp] theorem shiftSymbol_sendScript (bit : Bool) (s : State) :
    (shiftSymbol bit s).sendScript = s.sendScript := rfl
@[simp] theorem shiftSymbol_recvScript (bit : Bool) (s : State) :
    (shiftSymbol bit s).recvScript = s.recvScript := rfl
@[simp] theorem shiftSymbol_draws (bit : Bool) (s : State) :
    (shiftSymbol bit s).draws = s.draws := rfl
@[simp] theorem shiftSymbol_trace (bit : Bool) (s : State) :
    (shiftSymbol bit s).trace = s.trace := rfl
@[simp] theorem shiftSymbol_symPort (bit : Bool) (s : State) :
    (shiftSymbol bit s).symPort = s.symPort := rfl

end Sys2Proof.Machine
end

