-- ==== Sys2Proof/Laws/Ops.lean ====
section
/-! SUPPORT. What each shared operation can do, said once: its cases by the transport's answer and by the
position, and what it leaves alone. -/

namespace Sys2Proof.Machine

/-! ### Answers -/

theorem sendAnswer_of_script {s : State} {a as} (h : s.sendScript = a :: as) : s.sendAnswer = a := by
  simp [State.sendAnswer, h]

theorem recvAnswer_of_script {s : State} {a as} (h : s.recvScript = a :: as) : s.recvAnswer = a := by
  simp [State.recvAnswer, h]

/-! ### The send attempt (R100) -/

theorem sendAttempt_wouldBlock {s : State} (b) (h : s.sendAnswer = .wouldBlock) :
    sendAttempt b s = s.afterSend b := by simp [sendAttempt, h]

theorem sendAttempt_ok {s : State} (b) (h : s.sendAnswer = .ok) :
    sendAttempt b s = { s.afterSend b with io := .recv } := by simp [sendAttempt, h]

theorem sendAttempt_err {s : State} (b) {e} (h : s.sendAnswer = .err e) :
    sendAttempt b s = { s.afterSend b with status := .err e, phase := .idle } := by
  simp [sendAttempt, h, raiseTransportError, State.markErr]

/-- Everything a send attempt can do. -/
theorem sendAttempt_cases (b : Byte) (s : State) :
    (s.sendAnswer = .wouldBlock ∧ sendAttempt b s = s.afterSend b) ∨
    (s.sendAnswer = .ok ∧ sendAttempt b s = { s.afterSend b with io := .recv }) ∨
    ∃ e, s.sendAnswer = .err e ∧
      sendAttempt b s = { s.afterSend b with status := .err e, phase := .idle } := by
  cases h : s.sendAnswer with
  | ok => exact .inr (.inl ⟨rfl, sendAttempt_ok b h⟩)
  | wouldBlock => exact .inl ⟨rfl, sendAttempt_wouldBlock b h⟩
  | err e => exact .inr (.inr ⟨e, rfl, sendAttempt_err b h⟩)

theorem sendByte_enabled {b : Byte} {s : State} (hio : s.io = .send) (hout : s.out = some b) :
    sendByte b s = .next (sendAttempt b s) := by simp [sendByte, hio, hout]

theorem sendByte_disabled {b : Byte} {s : State} (h : ¬(s.io = .send ∧ s.out = some b)) :
    sendByte b s = .refused .notEnabled := by simp only [sendByte, if_neg h]

/-! ### The receive attempt (R101) -/

theorem recvAttempt_wouldBlock {s : State} (h : s.recvAnswer = .wouldBlock) :
    recvAttempt s = s.afterRecv := by simp [recvAttempt, h]

theorem recvAttempt_other {s : State} (h : s.recvAnswer ≠ .wouldBlock) :
    recvAttempt s = advance s.afterRecv := by
  cases ha : s.recvAnswer with
  | wouldBlock => exact absurd ha h
  | value v => simp [recvAttempt, ha]
  | err e => simp [recvAttempt, ha]

/-! ### The advances (R102, R133, R137) -/

theorem bit_eq_zero_or_one (b : BitVec 1) : b = 0 ∨ b = 1 := by decide +revert

/-- Everything ENC-ADVANCE can do. -/
theorem encAdvance_cases (s : State) :
    (s.bsel = 0 ∧ encAdvance s = { s with bsel := 1, io := .send }) ∨
    (s.bsel = 1 ∧ s.half = 0 ∧ encAdvance s = loadGroup s.chan 1 s) ∨
    (s.bsel = 1 ∧ s.half = 1 ∧ s.cidx.toNat < 2 ∧ encAdvance s = loadChannel (s.cidx + 1) s.rgb s) ∨
    (s.bsel = 1 ∧ s.half = 1 ∧ 2 ≤ s.cidx.toNat ∧ encAdvance s = { s with phase := .wait }) := by
  rcases bit_eq_zero_or_one s.bsel with hb | hb
  · exact .inl ⟨hb, by simp [encAdvance, hb]⟩
  rcases bit_eq_zero_or_one s.half with hh | hh
  · exact .inr (.inl ⟨hb, hh, by simp [encAdvance, hb, hh]⟩)
  by_cases hc : s.cidx.toNat < 2
  · exact .inr (.inr (.inl ⟨hb, hh, hc, by simp [encAdvance, hb, hh, hc]⟩))
  · exact .inr (.inr (.inr ⟨hb, hh, by omega, by simp [encAdvance, hb, hh, hc]⟩))

/-- Everything PreAdvance can do. -/
theorem preAdvance_cases (s : State) :
    (s.fcnt.toNat + 1 = Config.flushLen ∧
      preAdvance s = { s with fcnt := s.fcnt + 1, phase := .wait }) ∨
    (s.fcnt.toNat + 1 ≠ Config.flushLen ∧
      preAdvance s = { s with fcnt := s.fcnt + 1, io := .send }) := by
  by_cases h : s.fcnt.toNat + 1 = Config.flushLen
  · exact .inl ⟨h, by simp only [preAdvance, if_pos h]⟩
  · exact .inr ⟨h, by simp only [preAdvance, if_neg h]⟩

/-- Everything FlushAdvance can do. -/
theorem flushAdvance_cases (s : State) :
    (s.fcnt.toNat + 1 = Config.flushLen ∧
      flushAdvance s = { s with fcnt := s.fcnt + 1, phase := .idle, status := .ok }) ∨
    (s.fcnt.toNat + 1 ≠ Config.flushLen ∧
      flushAdvance s = { s with fcnt := s.fcnt + 1, io := .send }) := by
  by_cases h : s.fcnt.toNat + 1 = Config.flushLen
  · exact .inl ⟨h, by simp only [flushAdvance, if_pos h, State.markOk]⟩
  · exact .inr ⟨h, by simp only [flushAdvance, if_neg h]⟩

theorem advance_enc {s : State} (h : s.phase = .enc) : advance s = encAdvance s := by
  simp [advance, h]

theorem advance_preflush {s : State} (h : s.phase = .preflush) : advance s = preAdvance s := by
  simp [advance, h]

theorem advance_flush {s : State} (h : s.phase = .flush) : advance s = flushAdvance s := by
  simp [advance, h]

/-- An advance touches neither the ports nor the record of the past. -/
theorem advance_ports (s : State) :
    (advance s).tokenPort = s.tokenPort ∧ (advance s).sendScript = s.sendScript ∧
    (advance s).recvScript = s.recvScript ∧ (advance s).draws = s.draws ∧
    (advance s).trace = s.trace ∧ (advance s).symPort = s.symPort := by
  cases hp : s.phase with
  | idle | wait => simp [advance, hp]
  | enc =>
    rw [advance_enc hp]
    rcases encAdvance_cases s with ⟨-, h⟩ | ⟨-, -, h⟩ | ⟨-, -, -, h⟩ | ⟨-, -, -, h⟩ <;> simp [h]
  | preflush =>
    rw [advance_preflush hp]
    rcases preAdvance_cases s with ⟨-, h⟩ | ⟨-, h⟩ <;> simp [h]
  | flush =>
    rw [advance_flush hp]
    rcases flushAdvance_cases s with ⟨-, h⟩ | ⟨-, h⟩ <;> simp [h]

/-! ### What the attempts do at the ports -/

/-- A send attempt's part at the ports, whatever the answer (R51). -/
theorem sendAttempt_ports (b : Byte) (s : State) :
    (sendAttempt b s).tokenPort = s.tokenPort ∧
    (sendAttempt b s).trace = s.trace ++ [.send b s.sendAnswer] ∧
    (sendAttempt b s).symPort = s.symPort ∧ (sendAttempt b s).sendScript = s.sendScript.tail ∧
    (sendAttempt b s).recvScript = s.recvScript ∧
    (sendAttempt b s).draws = if s.sendScript = [] then s.draws + 1 else s.draws := by
  rcases sendAttempt_cases b s with ⟨-, h⟩ | ⟨-, h⟩ | ⟨e, -, h⟩ <;> rw [h] <;> simp

/-- A receive attempt's part at the ports, whatever the answer (R52). -/
theorem recvAttempt_ports (s : State) :
    (recvAttempt s).tokenPort = s.tokenPort ∧
    (recvAttempt s).trace = s.trace ++ [.recv s.recvAnswer] ∧
    (recvAttempt s).symPort = s.symPort ∧ (recvAttempt s).sendScript = s.sendScript ∧
    (recvAttempt s).recvScript = s.recvScript.tail := by
  by_cases h : s.recvAnswer = .wouldBlock
  · rw [recvAttempt_wouldBlock h]; simp
  · rw [recvAttempt_other h]
    have := advance_ports s.afterRecv
    simp [this]

/-! ### The position (R33, R34) -/

theorem sending_iff_out (s : State) : s.sending = true ↔ ∃ b, s.out = some b := by
  cases h : s.phase <;> simp [State.sending, State.out, h]

theorem tokenReady_iff_not_sending (s : State) : s.tokenReady = true ↔ s.sending = false := by
  cases h : s.phase <;> simp [State.sending, State.tokenReady, h]

theorem out_none_iff (s : State) : s.out = none ↔ s.tokenReady = true := by
  cases h : s.phase <;> simp [State.out, State.tokenReady, h]

theorem out_flushing {s : State} (h : s.phase = .preflush ∨ s.phase = .flush) :
    s.out = some flushByte := by
  rcases h with h | h <;> simp [State.out, h]

end Sys2Proof.Machine
end

