-- ==== Sys2Proof/Laws/PerInstr.lean ====
section
/-! SUPPORT. Facts said of every row of the opcode table as syntax, one lemma per constructor. -/

namespace Sys2Proof.Laws

/-- A word of a format and the table's match and mask of a row: the word's bits under the mask are the
match (the columns "match" and "mask" of the opcode table). -/
def rowMatches : TableWord → Nat → Nat → Prop
  | .token w, bits, mask => w &&& BitVec.ofNat 32 mask = BitVec.ofNat 32 bits
  | .tbyte b, bits, mask => b &&& BitVec.ofNat 8 mask = BitVec.ofNat 8 bits
  | .symbol n, bits, mask => n &&& BitVec.ofNat 4 mask = BitVec.ofNat 4 bits

/-- The match and mask of a row, copied from the opcode table. -/
def row : Instr → Nat × Nat
  | .start => (0x01000000, 0xFFFFFFFF)
  | .color _ _ _ => (0x02000000, 0xFF000000)
  | .finish => (0x03000000, 0xFFFFFFFF)
  | .sym0 => (0x8, 0xF)
  | .sym1 => (0xC, 0xF)
  | .tb00 => (0x88, 0xFF)
  | .tb01 => (0x8C, 0xFF)
  | .tb10 => (0xC8, 0xFF)
  | .tb11 => (0xCC, 0xFF)
  | .flush => (0x00, 0xFF)

/-- The encoder's word of an instruction fits the table's row for it. -/
def TableRow.Statement (i : Instr) : Prop := rowMatches (encode i) (row i).1 (row i).2

theorem TableRow.start : TableRow.Statement .start := rfl

theorem TableRow.color (r g b : Byte) : TableRow.Statement (.color r g b) := by
  simp only [TableRow.Statement, encode, rowMatches, row, tokenWord, colourPayload]
  ext i hi
  interval_cases i <;> simp

theorem TableRow.finish : TableRow.Statement .finish := rfl

theorem TableRow.sym0 : TableRow.Statement .sym0 := rfl

theorem TableRow.sym1 : TableRow.Statement .sym1 := rfl

theorem TableRow.tb00 : TableRow.Statement .tb00 := rfl

theorem TableRow.tb01 : TableRow.Statement .tb01 := rfl

theorem TableRow.tb10 : TableRow.Statement .tb10 := rfl

theorem TableRow.tb11 : TableRow.Statement .tb11 := rfl

theorem TableRow.flush : TableRow.Statement .flush := rfl

end Sys2Proof.Laws
end

