-- ==== Sys2Proof/Laws/Step.lean ====
section
/-! SUPPORT. The step, case by case, and everything one step can do. -/

namespace Sys2Proof.Machine

/-- A byte that decodes runs as the send attempt of that byte (R79, R81, R100). -/
theorem exec_of_decodeByte {b : Byte} {i : Instr} {s : State} (hd : decodeByte b = .ok i)
    (hio : s.io = .send) (hout : s.out = some b) : exec i s = .next (sendAttempt b s) := by
  have key : ∀ c, b = c → sendByte c s = .next (sendAttempt b s) := by
    rintro c rfl; exact sendByte_enabled hio hout
  unfold decodeByte at hd
  split at hd
  · cases hd; exact key _ ‹_›
  split at hd
  · cases hd; exact key _ ‹_›
  split at hd
  · cases hd; exact key _ ‹_›
  split at hd
  · cases hd; exact key _ ‹_›
  split at hd
  · cases hd; exact key _ ‹_›
  · cases hd

/-- In a sending phase with `IO = SEND` the step is the send attempt of `OUT` (R100, R130). -/
theorem step_send {s : State} {b : Byte} (hs : s.symPort = none) (hio : s.io = .send)
    (hout : s.out = some b) : step s = .next (sendAttempt b s) := by
  cases hd : decodeByte b with
  | error e => simp [step, fetch, hs, hout, fetchByte, hio, hd]
  | ok i => simp [step, fetch, hs, hout, fetchByte, hio, hd, exec_of_decodeByte hd hio hout]

/-- In a sending phase with `IO = RECV` the step is the receive attempt (R101, R130). -/
theorem step_recv {s : State} (hs : s.symPort = none) (hio : s.io = .recv)
    (hsend : s.sending = true) : step s = .next (recvAttempt s) := by
  obtain ⟨b, hout⟩ := (sending_iff_out s).1 hsend
  simp [step, fetch, hs, hout, fetchByte, hio]

/-- With nothing on a ready port, nothing changes (R131). -/
theorem step_hold {s : State} (hs : s.symPort = none) (hr : s.tokenReady = true)
    (ht : s.tokenPort = []) : step s = .next s := by
  simp [step, fetch, hs, (out_none_iff s).2 hr, fetchToken, ht]

/-- A token on a ready port runs (R131). -/
theorem step_token {s : State} {w ws i} (hs : s.symPort = none) (hr : s.tokenReady = true)
    (ht : s.tokenPort = w :: ws) (hd : decodeToken w = .ok i) :
    step s = exec i { s with tokenPort := ws } := by
  simp [step, fetch, hs, (out_none_iff s).2 hr, fetchToken, ht, hd]

/-- A reserved word on a ready port is refused (R74). -/
theorem step_reserved {s : State} {w ws why} (hs : s.symPort = none) (hr : s.tokenReady = true)
    (ht : s.tokenPort = w :: ws) (hd : decodeToken w = .error why) :
    step s = .refused (.reservedWord why) := by
  simp [step, fetch, hs, (out_none_iff s).2 hr, fetchToken, ht, hd]

/-- What a token's word decodes to is a token. -/
theorem decodeToken_cases {w : Token} {i : Instr} (h : decodeToken w = .ok i) :
    i = .start ∨ (∃ r g b, i = .color r g b) ∨ i = .finish := by
  unfold decodeToken at h
  split at h
  · split at h
    · cases h; exact .inl rfl
    · cases h
  split at h
  · cases h; exact .inr (.inl ⟨_, _, _, rfl⟩)
  split at h
  · split at h
    · cases h; exact .inr (.inr rfl)
    · cases h
  · cases h

/-- What a nibble decodes to is a symbol. -/
theorem decodeSymbol_cases {n : Nibble} {i : Instr} (h : decodeSymbol n = .ok i) :
    i = .sym0 ∨ i = .sym1 := by
  unfold decodeSymbol at h
  split at h
  · cases h; exact .inl rfl
  split at h
  · cases h; exact .inr rfl
  · cases h

/-- Everything one step can do from a state whose bench port is empty: hold, take a START, COLOR or END,
or make a send or receive attempt (R20, R130). -/
theorem step_cases {s t : State} (hs : s.symPort = none) (h : step s = .next t) :
    (s.tokenReady = true ∧ s.tokenPort = [] ∧ t = s) ∨
    (∃ w ws, s.phase = .idle ∧ s.tokenPort = w :: ws ∧ decodeToken w = .ok .start ∧
      t = startWrite Config.idleHigh (State.accept .start { s with tokenPort := ws })) ∨
    (∃ w ws r g b, s.phase = .wait ∧ s.tokenPort = w :: ws ∧ decodeToken w = .ok (.color r g b) ∧
      t = latchColour r g b (State.accept (.color r g b) { s with tokenPort := ws })) ∨
    (∃ w ws, s.phase = .wait ∧ s.tokenPort = w :: ws ∧ decodeToken w = .ok .finish ∧
      t = startFlush .flush (State.accept .finish { s with tokenPort := ws })) ∨
    (∃ b, s.sending = true ∧ s.io = .send ∧ s.out = some b ∧ t = sendAttempt b s) ∨
    (s.sending = true ∧ s.io = .recv ∧ t = recvAttempt s) := by
  cases hsend : s.sending with
  | true =>
    obtain ⟨b, hout⟩ := (sending_iff_out s).1 hsend
    cases hio : s.io with
    | send =>
      rw [step_send hs hio hout] at h; cases h
      exact .inr (.inr (.inr (.inr (.inl ⟨b, rfl, rfl, hout, rfl⟩))))
    | recv =>
      rw [step_recv hs hio hsend] at h; cases h
      exact .inr (.inr (.inr (.inr (.inr ⟨rfl, rfl, rfl⟩))))
  | false =>
    have hr := (tokenReady_iff_not_sending s).2 hsend
    cases ht : s.tokenPort with
    | nil => rw [step_hold hs hr ht] at h; cases h; exact .inl ⟨hr, rfl, rfl⟩
    | cons w ws =>
      cases hd : decodeToken w with
      | error e => rw [step_reserved hs hr ht hd] at h; cases h
      | ok i =>
        rw [step_token hs hr ht hd] at h
        have hp : s.phase = .idle ∨ s.phase = .wait := by simpa [State.tokenReady] using hr
        rcases decodeToken_cases hd with rfl | ⟨r, g, b, rfl⟩ | rfl <;> rcases hp with hp | hp <;>
          simp only [exec, execStart, execColor, execFinish, hp] at h <;> cases h
        · exact .inr (.inl ⟨w, ws, hp, rfl, hd, rfl⟩)
        · exact .inr (.inr (.inl ⟨w, ws, r, g, b, hp, rfl, hd, rfl⟩))
        · exact .inr (.inr (.inr (.inl ⟨w, ws, hp, rfl, hd, rfl⟩)))

/-- A step on the bench port's symbol shifts it into the accumulator and does nothing else. -/
theorem step_symbol_cases {s t : State} {n : Nibble} (hs : s.symPort = some n) (h : step s = .next t) :
    ∃ bit, t = shiftSymbol bit { s with symPort := none } := by
  cases hd : decodeSymbol n with
  | error e => simp [step, fetch, hs, fetchSymbol, hd] at h
  | ok i =>
    simp only [step, fetch, hs, fetchSymbol, hd] at h
    rcases decodeSymbol_cases hd with rfl | rfl <;> cases h
    · exact ⟨false, rfl⟩
    · exact ⟨true, rfl⟩

end Sys2Proof.Machine
end

