-- ==== Sys2Proof/Laws/Run.lean ====
section
/-! SUPPORT. Runs: their first step, their composition, and an induction over them packaged once. -/

namespace Sys2Proof.Machine

theorem reaches_refl (s : State) : Reaches s 0 s := rfl

/-- A run of `k + 1` steps is a step and a run of `k`. -/
theorem reaches_succ_iff {s t : State} {k : Nat} :
    Reaches s (k + 1) t ↔ ∃ u, step s = .next u ∧ Reaches u k t := by
  constructor
  · intro h
    cases hu : step s with
    | next u => exact ⟨u, rfl, by simpa [Reaches, Host.Core.run, Sys2Proof.core, hu] using h⟩
    | fault r => cases r
    | refused r => simp [Reaches, Host.Core.run, Sys2Proof.core, hu] at h
  · rintro ⟨u, hu, h⟩
    simpa [Reaches, Host.Core.run, Sys2Proof.core, hu] using h

theorem reaches_step {s u : State} (h : step s = .next u) : Reaches s 1 u :=
  reaches_succ_iff.2 ⟨u, h, rfl⟩

theorem reaches_cons {s u t : State} {k : Nat} (h : step s = .next u) (ht : Reaches u k t) :
    Reaches s (k + 1) t := reaches_succ_iff.2 ⟨u, h, ht⟩

/-- Runs compose. -/
theorem reaches_trans {s u t : State} {j k : Nat} (hu : Reaches s j u) (ht : Reaches u k t) :
    Reaches s (j + k) t := by
  induction j generalizing s with
  | zero => cases hu; simpa using ht
  | succ j ih =>
    obtain ⟨v, hv, hu⟩ := reaches_succ_iff.1 hu
    rw [Nat.succ_add]
    exact reaches_cons hv (ih hu)

/-- What holds at first and is kept by every step holds wherever a run ends. -/
theorem reaches_invariant {P : State → Prop} (hstep : ∀ s t, P s → step s = .next t → P t)
    {s t : State} {k : Nat} (hs : P s) (h : Reaches s k t) : P t := by
  induction k generalizing s with
  | zero => cases h; exact hs
  | succ k ih =>
    obtain ⟨u, hu, h⟩ := reaches_succ_iff.1 h
    exact ih (hstep s u hs hu) h

/-! ### States with the same registers -/

theorem SameBlock.refl (s : State) : SameBlock s s :=
  ⟨rfl, rfl, rfl, rfl, rfl, rfl, rfl, rfl, rfl, rfl⟩

theorem SameBlock.trans {s t u : State} (h : SameBlock s t) (k : SameBlock t u) : SameBlock s u :=
  ⟨k.phase.trans h.phase, k.io.trans h.io, k.cidx.trans h.cidx, k.half.trans h.half,
    k.bsel.trans h.bsel, k.chan.trans h.chan, k.rgb.trans h.rgb, k.acc.trans h.acc,
    k.fcnt.trans h.fcnt, k.status.trans h.status⟩

theorem SameBlock.out_eq {s t : State} (h : SameBlock s t) : t.out = s.out := by
  simp only [State.out, h.phase, h.bsel, h.acc]

theorem SameBlock.sending_eq {s t : State} (h : SameBlock s t) : t.sending = s.sending := by
  simp only [State.sending, h.phase]

/-! ### What every step keeps at the ports -/

/-- No step fills the bench port (log 5). -/
theorem step_symPort {s t : State} (hs : s.symPort = none) (h : step s = .next t) :
    t.symPort = none := by
  rcases step_cases hs h with ⟨-, -, rfl⟩ | ⟨w, ws, -, -, -, rfl⟩ | ⟨w, ws, r, g, b, -, -, -, rfl⟩ |
    ⟨w, ws, -, -, -, rfl⟩ | ⟨b, -, -, -, rfl⟩ | ⟨-, -, rfl⟩
  · exact hs
  · unfold startWrite; split <;> exact hs
  · exact hs
  · exact hs
  · rw [(sendAttempt_ports b s).2.2.1]; exact hs
  · rw [(recvAttempt_ports s).2.2.1]; exact hs

/-- The record of the past only grows. -/
theorem step_trace {s t : State} (hs : s.symPort = none) (h : step s = .next t) :
    ∃ evs, t.trace = s.trace ++ evs := by
  rcases step_cases hs h with ⟨-, -, rfl⟩ | ⟨w, ws, -, -, -, rfl⟩ | ⟨w, ws, r, g, b, -, -, -, rfl⟩ |
    ⟨w, ws, -, -, -, rfl⟩ | ⟨b, -, -, -, rfl⟩ | ⟨-, -, rfl⟩
  · exact ⟨[], by simp⟩
  · exact ⟨[.accept .start], by unfold startWrite; split <;> rfl⟩
  · exact ⟨_, rfl⟩
  · exact ⟨_, rfl⟩
  · exact ⟨_, (sendAttempt_ports b s).2.1⟩
  · exact ⟨_, (recvAttempt_ports s).2.1⟩

end Sys2Proof.Machine
end

