-- ==== Sys2Proof/Tests/Slice0.lean ====
section
/-! SUPPORT. The model's own tests. Expected values are the vectors of 95_test_vectors.md (named in each
comment) or words written out from the tables R72, R77, R79 and R81. After them, for each statement with
hypotheses, states and operands that meet them. -/

namespace Sys2Proof.Tests

open Sys2Proof Sys2Proof.Machine

/-! ### Helpers -/

/-- The state of an outcome that has one. -/
def stateOf : Result → Option State
  | .next s => some s
  | .fault _ => none
  | .refused _ => none

/-- The reason of a refusal. -/
def refusalOf : Result → Option Refusal
  | .next _ => none
  | .fault _ => none
  | .refused r => some r

/-- A small state: a write in progress in phase `p` with transport operation `io` next. -/
def inPhase (p : Phase) (io : Io) : State := { State.reset with phase := p, io := io, status := .busy }

/-- ENC, about to send the first byte of accumulator `a`. -/
def encSend (a : Acc) (ans : SendAnswer) : State :=
  { inPhase .enc .send with acc := a, sendScript := [ans] }

/-- ENC at the last byte of a group, its drain answered `Value(0x00)`. -/
def encDrain (half : BitVec 1) (cidx : BitVec 2) : State :=
  { inPhase .enc .recv with bsel := 1, half := half, cidx := cidx, chan := 0xA5, rgb := 0x00FF80,
                            recvScript := [.value 0x00] }

/-- A flush run after `n` slots, the drain of the next answered `a`. -/
def flushDrain (p : Phase) (n : BitVec 5) (a : RecvAnswer) : State :=
  { inPhase p .recv with fcnt := n, recvScript := [a] }

/-- IDLE with words on the token port. -/
def idleWith (ws : List Token) : State := { State.reset with tokenPort := ws }

/-- WAIT with words on the token port. -/
def waitWith (ws : List Token) : State := { inPhase .wait .send with tokenPort := ws }

/-! ### WellFormed: one ill-formed term for each check -/

theorem test_operand_256_refused : operandInRange 256 = false ∧ operandInRange 255 = true := by decide
theorem test_color_red_refused : (SourceLine.color 256 0 0).wellFormed = false := by decide
theorem test_color_green_refused : (SourceLine.color 0 256 0).wellFormed = false := by decide
theorem test_color_blue_refused : (SourceLine.color 0 0 256).wellFormed = false := by decide
theorem test_color_max_accepted : (SourceLine.color 255 255 255).wellFormed = true := by decide
theorem test_frame_refused : (SourceLine.frame [(1, 2, 3), (0, 0, 300)]).wellFormed = false := by decide
theorem test_write_without_start : isWrite [.color 1 2 3, .finish] = false := by decide
theorem test_write_without_end : isWrite [.start, .color 1 2 3] = false := by decide
theorem test_write_goes_on_after_end : isWrite [.start, .finish, .finish] = false := by decide
theorem test_write_second_start : isWrite [.start, .start, .finish] = false := by decide
theorem test_write_accepted : isWrite [.start, .color 1 2 3, .finish] = true := by decide

/-! ### Decoding: each row's word, bit by bit from the tables R72, R77, R79, R81 -/

theorem test_decode_start :
    decode (.token 0b00000001_00000000_00000000_00000000) = .ok .start := rfl
theorem test_decode_color :
    decode (.token 0b00000010_00010010_00110100_01010110) = .ok (.color 0x12 0x34 0x56) := rfl
theorem test_decode_color_bounds :
    decode (.token 0x02000000) = .ok (.color 0 0 0) ∧
    decode (.token 0x02FFFFFF) = .ok (.color 0xFF 0xFF 0xFF) := ⟨rfl, rfl⟩
theorem test_decode_end :
    decode (.token 0b00000011_00000000_00000000_00000000) = .ok .finish := rfl
theorem test_decode_sym0 : decode (.symbol 0b1000) = .ok .sym0 := rfl
theorem test_decode_sym1 : decode (.symbol 0b1100) = .ok .sym1 := rfl
theorem test_decode_tb00 : decode (.tbyte 0b1000_1000) = .ok .tb00 := rfl
theorem test_decode_tb01 : decode (.tbyte 0b1000_1100) = .ok .tb01 := rfl
theorem test_decode_tb10 : decode (.tbyte 0b1100_1000) = .ok .tb10 := rfl
theorem test_decode_tb11 : decode (.tbyte 0b1100_1100) = .ok .tb11 := rfl
theorem test_decode_flush : decode (.tbyte 0b0000_0000) = .ok .flush := rfl

/-- 95 §2.4, the refused words. -/
theorem test_decode_refused :
    [0x01000001, 0x01800000, 0x03000100, 0x03FFFFFF, 0x00000000, 0x00FFFFFF, 0x04000000,
      0x7F000000, 0x80000000, 0xFF123456, 0xFFFFFFFF].map (fun w => decode? (.token w)) =
      List.replicate 11 none := rfl

/-- Words of the two output formats that no table lists. -/
theorem test_decode_no_symbol_no_byte :
    decode? (.symbol 0b1010) = none ∧ decode? (.tbyte 0b1000_1010) = none := by decide

/-- The host's numbering: 32-bit rows are tokens, 8-bit rows bytes or symbols. -/
theorem test_table_words :
    decodeTableWord 32 0x01000000 = some .start ∧ decodeTableWord 32 0x0200FF80 = some (.color 0 0xFF 0x80) ∧
    decodeTableWord 32 0x03000000 = some .finish ∧ decodeTableWord 8 0x8 = some .sym0 ∧
    decodeTableWord 8 0xC = some .sym1 ∧ decodeTableWord 8 0x88 = some .tb00 ∧
    decodeTableWord 8 0x8C = some .tb01 ∧ decodeTableWord 8 0xC8 = some .tb10 ∧
    decodeTableWord 8 0xCC = some .tb11 ∧ decodeTableWord 8 0x00 = some .flush := by decide

/-- The encoder writes the words of 95 §2.4 back. -/
theorem test_encode_words :
    encode .start = .token 0x01000000 ∧ encode (.color 0x00 0xFF 0x80) = .token 0x0200FF80 ∧
    encode .finish = .token 0x03000000 := by decide

/-! ### Assembling (95 §2.4) -/

theorem test_asm_start : assembleText ['S', 't', 'a', 'r', 't'] = .ok [0x01000000] := rfl
theorem test_asm_color_decimal :
    assembleText ['C', 'O', 'L', 'O', 'R', ' ', '2', '5', '5', ',', ' ', '1', '2', '8', ',', '0'] =
      .ok [0x02FF8000] := rfl
theorem test_asm_color_hex :
    assembleText ['c', 'o', 'l', 'o', 'r', ' ', '0', 'x', '1', '2', ',', '0', 'x', '3', '4', ',',
      '0', 'x', '5', '6', ' ', ';', 'x'] = .ok [0x02123456] := rfl
theorem test_asm_color_256 :
    assembleText ['C', 'O', 'L', 'O', 'R', ' ', '2', '5', '6', ',', '0', ',', '0'] =
      .error .operandOutOfRange := rfl
theorem test_asm_frame_empty :
    assembleText ['F', 'R', 'A', 'M', 'E'] = .ok [0x01000000, 0x03000000] := rfl
theorem test_asm_frame_one :
    assembleText ['F', 'R', 'A', 'M', 'E', ' ', '(', '1', ',', '2', ',', '3', ')'] =
      .ok [0x01000000, 0x02010203, 0x03000000] := rfl
/-- Log 16: a line with a comment only. -/
theorem test_asm_blank : assembleText [' ', ';', 'S', 'T', 'A', 'R', 'T'] = .ok [] := rfl
theorem test_asm_bad_line : assembleText ['C', 'O', 'L', 'O', 'R', ' ', '1', ',', '2'] =
    .error .badLine := rfl

/-! ### Symbols and bytes (95 §2.1 to §2.3, §2.8) -/

theorem test_buildAcc_corners :
    buildAcc 0x00 0 = 0x8888 ∧ buildAcc 0xFF 1 = 0xCCCC ∧ buildAcc 0x80 0 = 0xC888 ∧
    buildAcc 0x80 1 = 0x8888 ∧ buildAcc 0x01 1 = 0x888C ∧ buildAcc 0x10 0 = 0x888C ∧
    buildAcc 0x08 1 = 0xC888 ∧ buildAcc 0xF0 1 = 0x8888 ∧ buildAcc 0x0F 1 = 0xCCCC := by decide
theorem test_encodeChannel_A5 : encodeChannel 0xA5 = [0xC8, 0xC8, 0x8C, 0x8C] := by decide
theorem test_encodeColour_123456 : encodeColour (0x12, 0x34, 0x56) =
    [0x88, 0x8C, 0x88, 0xC8, 0x88, 0xCC, 0x8C, 0x88, 0x8C, 0x8C, 0x8C, 0xC8] := by decide
theorem test_decodeChannel_A5 : decodeChannel 0xC8 0xC8 0x8C 0x8C = some 0xA5 := by decide
theorem test_frame_counts :
    (frameBytes false []).length = 20 ∧ (frameBytes true []).length = 40 ∧
    (frameBytes true [(1, 2, 3), (4, 5, 6), (7, 8, 9)]).length = 76 := by decide

/-! ### Token steps (95 §2.5) -/

/-- IDLE, START, `IDLE_HIGH` false: WAIT and BUSY. -/
theorem test_start_low :
    (startWrite false State.reset).phase = .wait ∧ (startWrite false State.reset).status = .busy := by decide
/-- IDLE, START, `IDLE_HIGH` true: PREFLUSH with `FCNT = 0`. -/
theorem test_start_high :
    (startWrite true { State.reset with fcnt := 20, io := .recv }).phase = .preflush ∧
    (startWrite true { State.reset with fcnt := 20, io := .recv }).fcnt = 0 ∧
    (startWrite true { State.reset with fcnt := 20, io := .recv }).io = .send := by decide
theorem test_color_accepted :
    (stateOf (step (waitWith [0x02A55A3C]))).map
      (fun t => (t.phase, t.rgb, t.cidx, t.chan, t.acc, t.io, t.tokenPort)) =
      some (.enc, 0xA55A3C, 0, 0xA5, 0xC8C8, .send, []) := rfl
theorem test_color_held_in_enc :
    stateOf (exec (.color 1 2 3) (inPhase .enc .send)) = some (inPhase .enc .send) := by decide
theorem test_end_accepted :
    (stateOf (step (waitWith [0x03000000]))).map (fun t => (t.phase, t.fcnt, t.io, t.status)) =
      some (.flush, 0, .send, .busy) := by decide
theorem test_refusals :
    refusalOf (step (waitWith [0x01000000])) = some .startInWait ∧
    refusalOf (step (idleWith [0x02000000])) = some .colorInIdle ∧
    refusalOf (step (idleWith [0x03000000])) = some .endInIdle ∧
    refusalOf (step (waitWith [0x05000000])) = some (.reservedWord (.opcode 0x05)) := by decide

/-! ### Symbol and byte rows -/

theorem test_sym0_shifts : (stateOf (execSym0 { State.reset with acc := 0x0C8C })).map State.acc =
    some 0xC8C8 := by decide
theorem test_sym1_shifts : (stateOf (execSym1 { State.reset with acc := 0xF008 })).map State.acc =
    some 0x008C := by decide
theorem test_tb00_sends : stateOf (exec .tb00 (encSend 0x88CC .ok)) =
    some { inPhase .enc .recv with acc := 0x88CC, trace := [.send 0x88 .ok] } := by decide
theorem test_tb01_sends : stateOf (exec .tb01 (encSend 0x8C88 .ok)) =
    some { inPhase .enc .recv with acc := 0x8C88, trace := [.send 0x8C .ok] } := by decide
theorem test_tb10_sends : stateOf (exec .tb10 (encSend 0xC888 .ok)) =
    some { inPhase .enc .recv with acc := 0xC888, trace := [.send 0xC8 .ok] } := by decide
theorem test_tb11_sends : stateOf (exec .tb11 (encSend 0xCC88 .ok)) =
    some { inPhase .enc .recv with acc := 0xCC88, trace := [.send 0xCC .ok] } := by decide
theorem test_tb11_not_current : refusalOf (exec .tb11 (encSend 0xC888 .ok)) = some .notEnabled := by decide
/-- S6: PREFLUSH, `FCNT = 3`. -/
theorem test_flush_sends :
    stateOf (exec .flush { inPhase .preflush .send with fcnt := 3, sendScript := [.ok] }) =
      some { inPhase .preflush .recv with fcnt := 3, trace := [.send 0x00 .ok] } := by decide

/-! ### Transport steps (95 §2.6) -/

/-- S3. -/
theorem test_S3 :
    stateOf (step { encSend 0x888C .ok with bsel := 1 }) =
      some { inPhase .enc .recv with acc := 0x888C, bsel := 1, trace := [.send 0x8C .ok] } := by decide
/-- S4. -/
theorem test_S4 :
    stateOf (step (encSend 0xC888 .wouldBlock)) =
      some { inPhase .enc .send with acc := 0xC888, trace := [.send 0xC8 .wouldBlock] } := by decide
/-- S5. -/
theorem test_S5 :
    stateOf (step (encSend 0xC888 (.err .known))) =
      some { inPhase .idle .send with acc := 0xC888, status := .err .known,
                                      trace := [.send 0xC8 (.err .known)] } := by decide
/-- S9 and S10. -/
theorem test_S9_S10 :
    (stateOf (step { inPhase .enc .recv with recvScript := [.err .known] })).map
      (fun t => (t.bsel, t.io, t.status)) = some (1, .send, .busy) ∧
    (stateOf (step { inPhase .enc .recv with recvScript := [.wouldBlock] })).map
      (fun t => (t.bsel, t.io, t.phase)) = some (0, .recv, .enc) := by decide
/-- S11. -/
theorem test_S11 :
    (stateOf (step (encDrain 0 0))).map (fun t => (t.half, t.acc, t.bsel, t.io)) =
      some (1, 0x8C8C, 0, .send) := by decide
/-- S12. -/
theorem test_S12 :
    (stateOf (step (encDrain 1 0))).map (fun t => (t.cidx, t.chan, t.half, t.acc, t.bsel, t.io)) =
      some (1, 0xFF, 0, 0xCCCC, 0, .send) := by decide
/-- S13. -/
theorem test_S13 :
    (stateOf (step (encDrain 1 1))).map (fun t => (t.cidx, t.chan, t.half, t.acc, t.bsel, t.io)) =
      some (2, 0x80, 0, 0xC888, 0, .send) := by decide
/-- S14. -/
theorem test_S14 : (stateOf (step (encDrain 1 2))).map State.phase = some .wait := by decide
/-- S16 and S17. -/
theorem test_S16_S17 :
    (stateOf (step (flushDrain .preflush 18 (.value 0)))).map (fun t => (t.fcnt, t.phase, t.io)) =
      some (19, .preflush, .send) ∧
    (stateOf (step (flushDrain .preflush 19 (.value 0)))).map (fun t => (t.fcnt, t.phase)) =
      some (20, .wait) := by decide
/-- S18 and S20. -/
theorem test_S18_S20 :
    (stateOf (step (flushDrain .flush 18 (.value 0)))).map (fun t => (t.fcnt, t.phase, t.status)) =
      some (19, .flush, .busy) ∧
    (stateOf (step (flushDrain .flush 19 (.err .known)))).map (fun t => (t.fcnt, t.phase, t.status)) =
      some (20, .idle, .ok) := by decide
/-- Z2: a reset in ENC. -/
theorem test_Z2 :
    (encSend 0xC888 .ok).hardReset.phase = .idle ∧ (encSend 0xC888 .ok).hardReset.status = .none := by decide
/-- H2: a hold. -/
theorem test_H2 : stateOf (step (waitWith [])) = some (waitWith []) := by decide

/-- `withFetchWord` makes the next step of the reset state run the row's word. -/
theorem test_withFetchWord_fetches :
    (fetch (State.reset.withFetchWord 32 0x01000000) = .run .start State.reset) ∧
    (fetch (State.reset.withFetchWord 32 0x02123456) = .run (.color 0x12 0x34 0x56) (waitWith [])) ∧
    (fetch (State.reset.withFetchWord 32 0x03000000) = .run .finish (waitWith [])) ∧
    (fetch (State.reset.withFetchWord 8 0xC) = .run .sym1 State.reset) ∧
    (fetch (State.reset.withFetchWord 8 0xC8) = .run .tb10 (State.reset.withFetchWord 8 0xC8)) ∧
    (fetch (State.reset.withFetchWord 8 0x00) = .run .flush (State.reset.withFetchWord 8 0x00)) := by
  decide

/-! ### Witnesses: states and operands that meet the hypotheses of each statement, clause by clause -/

/-- FLUSH at its last drain, answered by a value. -/
def lastDrain : State := flushDrain .flush 19 (.value 0x00)

/-- A trailer about to be sent, its first send failing. -/
def failingTrailer : State := { waitWith [0x03000000] with sendScript := [.err .known] }

/-- IDLE with the tokens of a write of `cs` offered, and answers to be taken. -/
def writeReady (cs : List Colour) (as : List SendAnswer) (rs : List RecvAnswer) : State :=
  { State.reset with tokenPort := tokenWords (frameInstrs cs), sendScript := as, recvScript := rs }

theorem witness_DecodeEncodeAgree :
    decode (.token 0x02FFFFFF) = .ok (.color 0xFF 0xFF 0xFF) ∧ decode (.symbol 0xC) = .ok .sym1 ∧
    decode (.tbyte 0x00) = .ok .flush := ⟨rfl, rfl, rfl⟩

theorem witness_TokenDecoderTotal :
    ((0x01000000 : Token).extractLsb' 24 8 = 0x01 ∧ (0x01000000 : Token).extractLsb' 0 24 = 0) ∧
    (0x02FFFFFF : Token).extractLsb' 24 8 = 0x02 ∧
    ((0x03000000 : Token).extractLsb' 24 8 = 0x03 ∧ (0x03000000 : Token).extractLsb' 0 24 = 0) ∧
    (¬((0x01000001 : Token).extractLsb' 24 8 = 0x01 ∧ (0x01000001 : Token).extractLsb' 0 24 = 0) ∧
      (0x01000001 : Token).extractLsb' 24 8 ≠ 0x02 ∧
      ¬((0x01000001 : Token).extractLsb' 24 8 = 0x03 ∧ (0x01000001 : Token).extractLsb' 0 24 = 0)) := by
  decide

theorem witness_ChannelRoundTrip : encodeChannel 0x80 = [0xC8, 0x88, 0x88, 0x88] := by decide

theorem witness_AssembledTokens_ranges :
    (255 < 256 ∧ 0 < 256 ∧ 256 ≤ 256) ∧
    (∃ c ∈ [(1, 2, 3), (0, 256, 0)], 256 ≤ c.1 ∨ 256 ≤ c.2.1 ∨ 256 ≤ c.2.2) ∧
    ∀ c ∈ [(255, 0, 255), (0, 1, 2)], c.1 < 256 ∧ c.2.1 < 256 ∧ c.2.2 < 256 := by decide

/-- For START, COLOR, END and the statements over `tokenReady`: each phase condition is met. -/
theorem witness_token_phases :
    State.reset.phase = .idle ∧ (waitWith []).phase = .wait ∧ (inPhase .preflush .send).sending = true ∧
    (inPhase .enc .recv).sending = true ∧ (inPhase .flush .send).sending = true := by decide

theorem witness_TokensRefused :
    ((waitWith [0x01000000]).symPort = none ∧ (waitWith [0x01000000]).phase = .wait) ∧
    ((idleWith [0x02000000]).phase = .idle ∧ tokenOp 0x02000000 = 0x02) ∧
    (idleWith [0x03000000]).phase = .idle ∧
    ((waitWith [0x04000000]).tokenReady = true ∧ 0x04 ≤ (tokenOp 0x04000000).toNat) ∧
    ((idleWith [0x00FFFFFF]).tokenReady = true ∧ tokenOp 0x00FFFFFF = 0x00) ∧
    (tokenOp 0x01000001 = 0x01 ∧ tokenPayload 0x01000001 ≠ 0) ∧
    (tokenOp 0x03FFFFFF = 0x03 ∧ tokenPayload 0x03FFFFFF ≠ 0) := by decide

theorem witness_TokenPortDiscipline :
    ((inPhase .enc .send).symPort = none ∧ (inPhase .enc .send).tokenReady = false) ∧
    ((waitWith [0x03000000]).tokenReady = true ∧ (waitWith [0x03000000]).tokenPort = [0x03000000]) ∧
    ((waitWith []).tokenReady = true ∧ (waitWith []).tokenPort = []) := by decide

theorem witness_BuildAccIsFourSymbols : State.reset.acc = 0 := rfl

theorem witness_ByteRowsSend :
    ((.tb10, 0xC8) ∈ byteRows ∧ (encSend 0xC888 .ok).io = .send ∧
      (encSend 0xC888 .ok).out = some 0xC8 ∧ (encSend 0xC888 .ok).sendAnswer = .ok) ∧
    (encSend 0x8CC8 .wouldBlock).sendAnswer = .wouldBlock ∧
    (encSend 0x88CC (.err .known)).sendAnswer = .err .known ∧
    ((.flush, 0x00) ∈ byteRows ∧ (inPhase .flush .send).out = some 0x00) ∧
    ¬((encSend 0xC888 .ok).io = .send ∧ (encSend 0xC888 .ok).out = some 0x00) := by decide

theorem witness_scripts :
    (encSend 0xC888 .ok).sendScript = .ok :: [] ∧ (encDrain 0 0).recvScript = .value 0x00 :: [] :=
  ⟨rfl, rfl⟩

/-- SendAttemptStep, AbortOnSendError, StepRunsDecodedInstruction (second clause): an enabled send. -/
theorem witness_send_enabled :
    (encSend 0xC888 (.err .known)).symPort = none ∧ (encSend 0xC888 (.err .known)).io = .send ∧
    (encSend 0xC888 (.err .known)).out = some 0xC8 ∧ (encSend 0xC888 (.err .known)).sendAnswer = .err .known ∧
    decode? (.tbyte 0xC8) = some .tb10 ∧ (encSend 0xC888 .wouldBlock).out = some 0xC8 ∧
    (encSend 0xC888 .ok).out = some 0xC8 := by decide

theorem witness_OutputByte :
    (inPhase .preflush .send).phase = .preflush ∧ (inPhase .flush .send).phase = .flush ∧
    ((encSend 0xC888 .ok).phase = .enc ∧ (encSend 0xC888 .ok).bsel = 0) ∧
    ((encDrain 0 0).phase = .enc ∧ (encDrain 0 0).bsel = 1) := by decide

theorem witness_DrainStep :
    ((encDrain 0 0).symPort = none ∧ (encDrain 0 0).sending = true ∧ (encDrain 0 0).io = .recv ∧
      (encDrain 0 0).recvAnswer ≠ .wouldBlock) ∧
    (flushDrain .flush 0 .wouldBlock).recvAnswer = .wouldBlock := by decide

theorem witness_EncAdvanceStep :
    ((encDrain 0 0).phase = .enc ∧ (encDrain 0 0).io = .recv ∧ (encDrain 0 0).recvAnswer ≠ .wouldBlock) ∧
    ({ encDrain 0 0 with bsel := 0 } : State).bsel = 0 ∧
    ((encDrain 0 0).bsel = 1 ∧ (encDrain 0 0).half = 0) ∧
    ((encDrain 1 0).half = 1 ∧ (encDrain 1 0).cidx = 0) ∧ (encDrain 1 1).cidx = 1 ∧
    (encDrain 1 2).cidx = 2 := by decide

theorem witness_PreFlushStep :
    ((flushDrain .preflush 19 (.value 0)).phase = .preflush ∧
      (flushDrain .preflush 19 (.value 0)).io = .recv ∧
      (flushDrain .preflush 19 (.value 0)).recvAnswer ≠ .wouldBlock ∧
      (flushDrain .preflush 19 (.value 0)).fcnt = 19) ∧
    (flushDrain .preflush 18 (.value 0)).fcnt.toNat < 19 := by decide

theorem witness_TrailerStep :
    (lastDrain.symPort = none ∧ lastDrain.phase = .flush ∧ lastDrain.io = .recv ∧
      lastDrain.recvAnswer ≠ .wouldBlock ∧ lastDrain.fcnt = 19) ∧
    (flushDrain .flush 18 (.value 0)).fcnt.toNat < 19 := by decide

theorem witness_SendRetried :
    ({ encSend 0xC888 .ok with sendScript := [.wouldBlock, .wouldBlock, .ok] } : State).sendScript =
      List.replicate 2 .wouldBlock ++ [.ok] ∧ (encSend 0xC888 .ok).out = some 0xC8 := by decide

theorem witness_DrainRetried :
    ({ encDrain 0 0 with recvScript := [.wouldBlock, .wouldBlock, .value 1] } : State).recvScript =
      List.replicate 2 .wouldBlock ++ [.value 1] ∧ (encDrain 0 0).sending = true := by decide

theorem witness_StepRunsDecodedInstruction :
    ((waitWith [0x02123456]).symPort = none ∧ (waitWith [0x02123456]).tokenReady = true ∧
      decode? (.token 0x02123456) = some (.color 0x12 0x34 0x56)) ∧
    (({ State.reset with symPort := some 0x8 } : State).symPort = some 0x8 ∧
      decode? (.symbol 0x8) = some .sym0) := by decide

/-- InvariantKept, OutputAlphabet: the invariant holds in the middle of a write. -/
theorem witness_inv : (encSend 0x8888 .ok).Inv where
  bench := rfl
  busy := by decide
  cidx := by decide
  fcnt := by decide
  flushing := by decide
  preflush := by decide
  chan := by decide
  acc := by decide

theorem witness_InvariantKept :
    step (encSend 0x8888 .ok) = .next { inPhase .enc .recv with acc := 0x8888, trace := [.send 0x88 .ok] } ∧
    alphabetKept (encSend 0x8888 .ok).trace :=
  ⟨rfl, by simp [alphabetKept, encSend, inPhase, State.reset]⟩

theorem witness_PortOrderKept : (encSend 0x8888 .ok).PortInv where
  bench := rfl
  atRest := by decide
  atSend := fun _ _ => .inl rfl
  atDrain := by decide

theorem witness_WriteEndings :
    (lastDrain.symPort = none ∧ lastDrain.phase ≠ .idle ∧
      (stateOf (step lastDrain)).map State.phase = some .idle) ∧
    (stateOf (step (encSend 0xC888 (.err .known)))).map State.phase = some .idle := by decide

theorem witness_StatusChanges :
    (stateOf (step lastDrain)).map State.status = some .ok ∧ lastDrain.status = .busy := by decide

theorem witness_NothingBeforeStart :
    State.reset.symPort = none ∧ State.reset.phase = .idle ∧ Reaches State.reset 3 State.reset :=
  ⟨rfl, rfl, rfl⟩

/-- Two IDLE states whose unspecified registers all differ. -/
theorem witness_UnspecifiedUnobservable :
    Agree State.reset { State.reset with io := .recv, cidx := 3, half := 1, bsel := 1, chan := 0xAA,
                                         rgb := 0x123456, acc := 0xFFFF, fcnt := 31 } where
  phase := rfl
  status := rfl
  tokenPort := rfl
  sendScript := rfl
  recvScript := rfl
  draws := rfl
  trace := rfl
  symPort := rfl
  io := by decide
  encoding := by decide
  flushing := by decide

theorem witness_UnspecifiedUnobservable_refused :
    Host.Core.run Sys2Proof.core 1 (idleWith [0x03000000]) = .refused .endInIdle := rfl

theorem witness_ErrorsPassedVerbatim :
    (writeReady [] [.ok] [.value 0]).sendScript ≠ [] ∧ (writeReady [] [.ok] [.value 0]).recvScript ≠ [] := by
  decide

theorem witness_DrainedValueUnread : RecvAnswer.err .known ≠ .wouldBlock ∧ (encDrain 0 0).recvScript ≠ [] := by
  decide

theorem witness_PositionIndependentOfColour :
    SamePosition (encSend 0x8888 .ok) { encSend 0xCCCC .ok with chan := 0xFF, rgb := 0xFFFFFF } ∧
    (encSend 0x8888 .ok).sending = true :=
  ⟨⟨rfl, rfl, rfl, rfl, rfl, rfl, rfl, rfl, rfl, rfl⟩, rfl⟩

theorem witness_ByteSlotRefined :
    (byteSlot 0xC8 [.wouldBlock, .ok] [.wouldBlock, .value 1]).ending = .done ∧
    (byteSlot 0xC8 [.wouldBlock, .err .known] []).ending = .failed .known ∧
    (encSend 0xC888 .ok).symPort = none ∧ (encSend 0xC888 .ok).io = .send ∧
    (encSend 0xC888 .ok).out = some 0xC8 := by decide

theorem witness_ColourEncoded :
    (waitWith [0x0200FF80]).tokenPort = tokenWords [.color 0x00 0xFF 0x80] ++ [] ∧
    (byteSlots (encodeChannel 0x00 ++ (encodeChannel 0xFF ++ encodeChannel 0x80))
      (List.replicate 12 .ok) (List.replicate 12 (.value 0))).ending = .done ∧
    (byteSlots (encodeChannel 0x00 ++ (encodeChannel 0xFF ++ encodeChannel 0x80))
      [.ok, .err .known] [.value 0]).ending = .failed .known := by decide

/-- Whichever way `IDLE_HIGH` is strapped, some answers complete an empty write. -/
theorem witness_WriteRefinesFrame_done :
    ∀ idleHigh, (byteSlots (frameBytes idleHigh []) (List.replicate 40 .ok)
      (List.replicate 40 (.value 0))).ending = .done := by decide

/-- And a failing first send aborts it. -/
theorem witness_WriteRefinesFrame_failed :
    ∀ idleHigh, (byteSlots (frameBytes idleHigh []) [.err .known] []).ending = .failed .known := by decide

theorem witness_write_offered :
    (writeReady [(1, 2, 3)] [.ok] [.value 0]).symPort = none ∧
    (writeReady [(1, 2, 3)] [.ok] [.value 0]).phase = .idle ∧
    (writeReady [(1, 2, 3)] [.ok] [.value 0]).tokenPort = [0x01000000, 0x02010203, 0x03000000] := by decide

/-- FrameCompletes: one retry before each send, none before a drain. -/
theorem witness_FrameCompletes :
    ∃ (ns : List Nat) (ds : List (Nat × RecvAnswer)),
      (writeReady [] (liveSends ns) (liveDrains ds)).tokenPort = tokenWords (frameInstrs []) ++ [] ∧
      (writeReady [] (liveSends ns) (liveDrains ds)).sendScript = liveSends ns ++ [] ∧
      (writeReady [] (liveSends ns) (liveDrains ds)).recvScript = liveDrains ds ++ [] ∧
      ns.length = (frameBytes Config.idleHigh []).length ∧
      ds.length = (frameBytes Config.idleHigh []).length ∧ ∀ d ∈ ds, d.2 ≠ .wouldBlock :=
  ⟨List.replicate (frameBytes Config.idleHigh []).length 1,
    List.replicate (frameBytes Config.idleHigh []).length (0, .value 0),
    by simp [writeReady], by simp [writeReady], by simp [writeReady], by simp, by simp,
    fun d hd => by rw [List.eq_of_mem_replicate hd]; decide⟩

/-- FrameAborts: the fifth send of a write fails after one retry (L1.5). -/
theorem witness_FrameAborts :
    (liveSends [0, 0, 0, 0] ++ (List.replicate 1 .wouldBlock ++ [.err .known])) =
      [.ok, .ok, .ok, .ok, .wouldBlock, .err .known] ∧
    (∀ idleHigh, 4 < (frameBytes idleHigh []).length) ∧
    ∀ d ∈ List.replicate 4 ((0 : Nat), RecvAnswer.value 0), d.2 ≠ .wouldBlock := by decide

/-- OfferedIsFramePrefix, EndlessFrame: runs of such states exist. -/
theorem witness_runs :
    Reaches (writeReady [] [.ok] [.value 0]) 0 (writeReady [] [.ok] [.value 0]) ∧
    ∃ t, Reaches (idleWith (tokenWords (openFrame []))) 1 t := by
  refine ⟨rfl, startWrite Config.idleHigh (State.accept .start (idleWith [])), reaches_step ?_⟩
  rfl

/-- A run of a state that one step turns into an idle one with nothing offered stays there. -/
theorem run_after_idle {s : State} (hs : s.symPort = none) (hp : s.phase = .idle) (ht : s.tokenPort = [])
    {k : Nat} {t : State} (h : Reaches s k t) : t = s :=
  reaches_invariant (P := fun u => u = s)
    (by
      rintro u v rfl hv
      rw [step_hold hs (by simp [State.tokenReady, hp]) ht] at hv
      cases hv; rfl) rfl h

/-- LiveWriteEnds, in the trailer: TRANSPORT_LIVE is met by answers that come. -/
theorem witness_LiveWriteEnds_flush : TransportLive lastDrain ∧ lastDrain.phase ≠ .idle := by
  refine ⟨fun k t h hsend => ?_, by decide⟩
  cases k with
  | zero =>
    cases h
    exact ⟨1, recvAttempt lastDrain, [], .recv (.value 0), rfl, rfl, .inr rfl⟩
  | succ k =>
    obtain ⟨u, hu, h⟩ := reaches_succ_iff.1 h
    cases hu
    rw [run_after_idle rfl rfl rfl h] at hsend
    cases hsend

/-- LiveWriteEnds, before the trailer: the same with END on the port. -/
theorem witness_LiveWriteEnds_wait :
    TransportLive failingTrailer ∧ failingTrailer.phase ≠ .idle ∧ failingTrailer.phase ≠ .flush ∧
    failingTrailer.tokenPort = tokenWords (([] : List Colour).map
      (fun c => Instr.color c.1 c.2.1 c.2.2) ++ [.finish]) ++ [] := by
  refine ⟨fun k t h hsend => ?_, by decide, by decide, by decide⟩
  match k, h with
  | 0, h => cases h; cases hsend
  | 1, h =>
    cases h
    exact ⟨1, _, [], .send 0x00 (.err .known), rfl, rfl, .inl rfl⟩
  | k + 2, h =>
    obtain ⟨u, hu, h⟩ := reaches_succ_iff.1 h
    cases hu
    obtain ⟨u, hu, h⟩ := reaches_succ_iff.1 h
    cases hu
    rw [run_after_idle rfl rfl rfl h] at hsend
    cases hsend

theorem witness_LiveWriteEnds_inv : lastDrain.Inv where
  bench := rfl
  busy := by decide
  cidx := by decide
  fcnt := by decide
  flushing := by decide
  preflush := by decide
  chan := by decide
  acc := by decide

theorem witness_LiveWriteEnds_inv_wait : failingTrailer.Inv where
  bench := rfl
  busy := by decide
  cidx := by decide
  fcnt := by decide
  flushing := by decide
  preflush := by decide
  chan := by decide
  acc := by decide

/-- SymbolTimes: a clock in the window. -/
theorem witness_SymbolTimes : (32 / 10 : ℚ) ≠ 0 := by norm_num

/-- The runs after an abort or a reset that AbortOnSendError, FrameAborts and ResetEndsWrite speak of. -/
theorem witness_runs_after_abort :
    Reaches { inPhase .idle .send with status := .err .known } 5
      { inPhase .idle .send with status := .err .known } ∧
    Reaches (encSend 0xC888 .ok).hardReset 2 (encSend 0xC888 .ok).hardReset := ⟨rfl, rfl⟩

/-- WritesIdempotent: two IDLE states with different histories, STATUS OK and ERR, and different retries. -/
theorem witness_WritesIdempotent :
    ∃ (s1 s2 : State) (ns1 ns2 : List Nat) (ds1 ds2 : List (Nat × RecvAnswer)),
      (s1.symPort = none ∧ s1.phase = .idle ∧ s1.status = .ok ∧
        s1.tokenPort = tokenWords (frameInstrs []) ++ [] ∧ s1.sendScript = liveSends ns1 ∧
        s1.recvScript = liveDrains ds1) ∧
      (s2.symPort = none ∧ s2.phase = .idle ∧ s2.status = .err .known ∧
        s2.tokenPort = tokenWords (frameInstrs []) ++ [] ∧ s2.sendScript = liveSends ns2 ∧
        s2.recvScript = liveDrains ds2) ∧
      (∀ l ∈ [ns1.length, ns2.length, ds1.length, ds2.length],
        l = (frameBytes Config.idleHigh []).length) ∧
      ∀ d ∈ ds1 ++ ds2, d.2 ≠ .wouldBlock := by
  let n := (frameBytes Config.idleHigh []).length
  let ds1 : List (Nat × RecvAnswer) := List.replicate n (0, .value 0)
  let ds2 : List (Nat × RecvAnswer) := List.replicate n (3, .err .known)
  refine ⟨{ writeReady [] (liveSends (List.replicate n 1)) (liveDrains ds1) with status := .ok },
    { writeReady [] (liveSends (List.replicate n 0)) (liveDrains ds2) with status := .err .known },
    List.replicate n 1, List.replicate n 0, ds1, ds2, ⟨rfl, rfl, rfl, by simp [writeReady], rfl, rfl⟩,
    ⟨rfl, rfl, rfl, by simp [writeReady], rfl, rfl⟩, by simp [ds1, ds2, n], fun d hd => ?_⟩
  rcases List.mem_append.1 hd with h | h <;> rw [List.eq_of_mem_replicate h] <;> decide

/-- CallerDuties: all duties can be met together. -/
theorem witness_CallerDuties :
    (CallerDuties.mk (32 / 10) true true Config.idleHigh true).met := by
  refine ⟨⟨?_, ?_⟩, rfl, rfl, rfl, rfl⟩ <;> norm_num

end Sys2Proof.Tests
end

section
/-! SUPPORT. Relabelling what the transport says, in the answers to come, in `STATUS` and in the record of
the past, commutes with every operation and so with the step: the block tells apart only the kind of a send
answer (R100) and whether a receive answer is `WouldBlock` (R101). -/

namespace Sys2Proof.Machine

/-- An event with the error of a send answer renamed by `f` and a receive answer replaced by `q`. -/
def Event.relabel (f : TransportErr → TransportErr) (q : RecvAnswer → RecvAnswer) : Event → Event
  | .accept i => .accept i
  | .send b a => .send b (SendAnswer.mapErr f a)
  | .recv a => .recv (q a)

/-- A state with the errors of `STATUS` and of all send answers renamed by `f`, and all receive answers
replaced by `q`. -/
def State.relabel (f : TransportErr → TransportErr) (q : RecvAnswer → RecvAnswer) (s : State) : State :=
  { s with
    status := s.status.mapErr f
    sendScript := s.sendScript.map (SendAnswer.mapErr f)
    recvScript := s.recvScript.map q
    trace := s.trace.map (Event.relabel f q) }

section
variable (f : TransportErr → TransportErr) (q : RecvAnswer → RecvAnswer)

@[simp] theorem relabel_phase (s : State) : (s.relabel f q).phase = s.phase := rfl

/-! ### Answers -/

theorem sendAnswer_relabel {s : State} (h : s.sendScript ≠ []) :
    (s.relabel f q).sendAnswer = SendAnswer.mapErr f s.sendAnswer := by
  obtain ⟨a, as, hs⟩ := List.exists_cons_of_ne_nil h
  have hs' : (s.relabel f q).sendScript = SendAnswer.mapErr f a :: as.map (SendAnswer.mapErr f) := by
    simp only [State.relabel, hs, List.map_cons]
  rw [sendAnswer_of_script hs, sendAnswer_of_script hs']

theorem recvAnswer_relabel {s : State} (h : s.recvScript ≠ []) :
    (s.relabel f q).recvAnswer = q s.recvAnswer := by
  obtain ⟨a, as, hs⟩ := List.exists_cons_of_ne_nil h
  have hs' : (s.relabel f q).recvScript = q a :: as.map q := by
    simp only [State.relabel, hs, List.map_cons]
  rw [recvAnswer_of_script hs, recvAnswer_of_script hs']

/-! ### Tokens (R132, R134, R136) -/

theorem accept_relabel (i : Instr) (s : State) :
    (s.relabel f q).accept i = (s.accept i).relabel f q := by
  simp [State.accept, State.relabel, Event.relabel]

theorem startWrite_relabel (idleHigh : Bool) (s : State) :
    startWrite idleHigh (s.relabel f q) = (startWrite idleHigh s).relabel f q := by
  cases idleHigh <;> rfl

theorem execStart_relabel (s : State) :
    execStart (s.relabel f q) = mapResult (State.relabel f q) (execStart s) := by
  cases h : s.phase <;>
    simp only [execStart, relabel_phase, h, accept_relabel, startWrite_relabel, mapResult]

theorem execColor_relabel (r g b : Byte) (s : State) :
    execColor r g b (s.relabel f q) = mapResult (State.relabel f q) (execColor r g b s) := by
  have hlatch (t : State) : latchColour r g b (t.relabel f q) = (latchColour r g b t).relabel f q := rfl
  cases h : s.phase <;> simp only [execColor, relabel_phase, h, accept_relabel, hlatch, mapResult]

theorem execFinish_relabel (s : State) :
    execFinish (s.relabel f q) = mapResult (State.relabel f q) (execFinish s) := by
  have hflush (t : State) : startFlush .flush (t.relabel f q) = (startFlush .flush t).relabel f q := rfl
  cases h : s.phase <;> simp only [execFinish, relabel_phase, h, accept_relabel, hflush, mapResult]

/-- Whatever a token's word decodes to. -/
theorem exec_relabel_of_decodeToken {w : Token} {i : Instr} (hd : decodeToken w = .ok i) (s : State) :
    exec i (s.relabel f q) = mapResult (State.relabel f q) (exec i s) := by
  rcases decodeToken_cases hd with rfl | ⟨r, g, b, rfl⟩ | rfl
  · exact execStart_relabel f q s
  · exact execColor_relabel f q r g b s
  · exact execFinish_relabel f q s

/-- Whatever a nibble decodes to (R77). -/
theorem exec_relabel_of_decodeSymbol {n : Nibble} {i : Instr} (hd : decodeSymbol n = .ok i) (s : State) :
    exec i (s.relabel f q) = mapResult (State.relabel f q) (exec i s) := by
  rcases decodeSymbol_cases hd with rfl | rfl <;> rfl

/-! ### The advances (R102, R133, R137) -/

theorem encAdvance_relabel (s : State) :
    encAdvance (s.relabel f q) = (encAdvance s).relabel f q := by
  simp only [encAdvance, apply_ite (State.relabel f q)]
  rfl

theorem preAdvance_relabel (s : State) :
    preAdvance (s.relabel f q) = (preAdvance s).relabel f q := by
  simp only [preAdvance, apply_ite (State.relabel f q)]
  rfl

theorem flushAdvance_relabel (s : State) :
    flushAdvance (s.relabel f q) = (flushAdvance s).relabel f q := by
  simp only [flushAdvance, apply_ite (State.relabel f q)]
  rfl

theorem advance_relabel (s : State) : advance (s.relabel f q) = (advance s).relabel f q := by
  have hp := relabel_phase f q s
  cases h : s.phase with
  | idle | wait => simp only [advance, relabel_phase, h]
  | enc => rw [advance_enc h, advance_enc (hp.trans h), encAdvance_relabel]
  | preflush => rw [advance_preflush h, advance_preflush (hp.trans h), preAdvance_relabel]
  | flush => rw [advance_flush h, advance_flush (hp.trans h), flushAdvance_relabel]

/-! ### The attempts (R100, R101) -/

variable {f q} {s : State}

theorem afterSend_relabel (b : Byte)
    (ha : (s.relabel f q).sendAnswer = SendAnswer.mapErr f s.sendAnswer) :
    (s.relabel f q).afterSend b = (s.afterSend b).relabel f q := by
  simp only [State.afterSend, ha]
  simp [State.relabel, Event.relabel]

theorem afterRecv_relabel (ha : (s.relabel f q).recvAnswer = q s.recvAnswer) :
    (s.relabel f q).afterRecv = s.afterRecv.relabel f q := by
  simp only [State.afterRecv, ha]
  simp [State.relabel, Event.relabel]

theorem sendAttempt_relabel (b : Byte)
    (ha : (s.relabel f q).sendAnswer = SendAnswer.mapErr f s.sendAnswer) :
    sendAttempt b (s.relabel f q) = (sendAttempt b s).relabel f q := by
  have hafter := afterSend_relabel b ha
  cases h : s.sendAnswer with
  | ok => rw [sendAttempt_ok b h, sendAttempt_ok b (by rw [ha, h]; rfl), hafter]; rfl
  | wouldBlock =>
    rw [sendAttempt_wouldBlock b h, sendAttempt_wouldBlock b (by rw [ha, h]; rfl), hafter]
  | err e => rw [sendAttempt_err b h, sendAttempt_err b (by rw [ha, h]; rfl), hafter]; rfl

theorem recvAttempt_relabel (hq : ∀ a, q a = .wouldBlock ↔ a = .wouldBlock)
    (ha : (s.relabel f q).recvAnswer = q s.recvAnswer) :
    recvAttempt (s.relabel f q) = (recvAttempt s).relabel f q := by
  have hafter := afterRecv_relabel ha
  by_cases h : s.recvAnswer = .wouldBlock
  · rw [recvAttempt_wouldBlock h, recvAttempt_wouldBlock (ha.trans ((hq _).2 h)), hafter]
  · rw [recvAttempt_other h, recvAttempt_other (by rwa [ha, Ne, hq]), hafter, advance_relabel]

/-! ### The step -/

/-- A step on the bench port's symbol (log 5). -/
theorem step_relabel_of_symPort {n : Nibble} (hs : s.symPort = some n) :
    step (s.relabel f q) = mapResult (State.relabel f q) (step s) := by
  have hs' : (s.relabel f q).symPort = some n := hs
  cases hd : decodeSymbol n with
  | error e => simp only [step, fetch, hs, hs', fetchSymbol, hd, mapResult]
  | ok i =>
    simp only [step, fetch, hs, hs', fetchSymbol, hd]
    exact exec_relabel_of_decodeSymbol f q hd { s with symPort := none }

/-- A step in IDLE or WAIT (R131). -/
theorem step_relabel_of_tokenReady (hs : s.symPort = none) (hr : s.tokenReady = true) :
    step (s.relabel f q) = mapResult (State.relabel f q) (step s) := by
  have hs' : (s.relabel f q).symPort = none := hs
  have hr' : (s.relabel f q).tokenReady = true := hr
  have ht' : (s.relabel f q).tokenPort = s.tokenPort := rfl
  cases ht : s.tokenPort with
  | nil => rw [step_hold hs hr ht, step_hold hs' hr' (ht'.trans ht), mapResult]
  | cons w ws =>
    cases hd : decodeToken w with
    | error e =>
      rw [step_reserved hs hr ht hd, step_reserved hs' hr' (ht'.trans ht) hd, mapResult]
    | ok i =>
      rw [step_token hs hr ht hd, step_token hs' hr' (ht'.trans ht) hd]
      exact exec_relabel_of_decodeToken f q hd { s with tokenPort := ws }

/-- The step commutes with a relabelling that keeps `WouldBlock` apart, where the next answers are
relabelled too. -/
theorem step_relabel (hq : ∀ a, q a = .wouldBlock ↔ a = .wouldBlock)
    (hsend : (s.relabel f q).sendAnswer = SendAnswer.mapErr f s.sendAnswer)
    (hrecv : (s.relabel f q).recvAnswer = q s.recvAnswer) :
    step (s.relabel f q) = mapResult (State.relabel f q) (step s) := by
  cases hs : s.symPort with
  | some n => exact step_relabel_of_symPort hs
  | none =>
    have hs' : (s.relabel f q).symPort = none := hs
    cases hsending : s.sending with
    | false =>
      exact step_relabel_of_tokenReady hs ((tokenReady_iff_not_sending s).2 hsending)
    | true =>
      cases hio : s.io with
      | send =>
        obtain ⟨b, hout⟩ := (sending_iff_out s).1 hsending
        have hout' : (s.relabel f q).out = some b := hout
        rw [step_send hs hio hout, step_send hs' hio hout', sendAttempt_relabel b hsend, mapResult]
      | recv =>
        have hsending' : (s.relabel f q).sending = true := hsending
        rw [step_recv hs hio hsending, step_recv hs' hio hsending', recvAttempt_relabel hq hrecv,
          mapResult]

end

end Sys2Proof.Machine
end

section
/-! PROOFS of the obligations of 00_scope.md. -/

namespace Sys2Proof.Machine

/-- Renaming the errors is a relabelling. -/
theorem mapErr_eq_relabel (f : TransportErr → TransportErr) :
    State.mapErr f = State.relabel f (RecvAnswer.mapErr f) := by
  have hevent : Event.mapErr f = Event.relabel f (RecvAnswer.mapErr f) := by
    funext e; cases e <;> rfl
  funext s
  simp only [State.mapErr, State.relabel, hevent]

/-- A renamed answer still says whether the attempt is to be repeated. -/
theorem recvAnswer_mapErr_eq_wouldBlock_iff (f : TransportErr → TransportErr) (a : RecvAnswer) :
    RecvAnswer.mapErr f a = .wouldBlock ↔ a = .wouldBlock := by
  cases a <;> simp [RecvAnswer.mapErr]

/-- Settles O38: renaming errors is a relabelling, and the step commutes with relabellings. -/
theorem errorsPassedVerbatim : Obligations.ErrorsPassedVerbatim := by
  unfold Obligations.ErrorsPassedVerbatim
  intro f s hsend hrecv
  rw [mapErr_eq_relabel f]
  exact step_relabel (recvAnswer_mapErr_eq_wouldBlock_iff f) (sendAnswer_relabel f _ hsend)
    (recvAnswer_relabel f _ hrecv)

end Sys2Proof.Machine
end

section
/-! PROOFS of the invariant of 10_state.md: one rule per operation, then the step. -/

namespace Sys2Proof.Machine

variable {s : State}

/-! ### What the outside adds is no part of the invariant -/

theorem State.Inv.accept (h : s.Inv) (i : Instr) (ws : List Token) :
    (State.accept i { s with tokenPort := ws }).Inv := { h with }

theorem State.Inv.afterSend (h : s.Inv) (b : Byte) : (s.afterSend b).Inv := { h with }

theorem State.Inv.afterRecv (h : s.Inv) : s.afterRecv.Inv := { h with }

/-- In IDLE and WAIT only the ranges and `STATUS` are left to keep. -/
theorem State.Inv.rest (h : s.Inv) {p : Phase} {st : Status} (hp : p = .idle ∨ p = .wait)
    (hst : st = .busy ↔ p ≠ .idle) : State.Inv { s with phase := p, status := st } := by
  rcases hp with rfl | rfl <;>
    exact { h with
      busy := hst, flushing := by simp, preflush := nofun, chan := nofun, acc := nofun }

/-! ### Tokens (R132, R134, R136) -/

/-- A flush run starts at count 0, the pre-frame flush only under `IDLE_HIGH`. -/
theorem inv_startFlush {p : Phase} (hbench : s.symPort = none) (hcidx : s.cidx.toNat ≤ 2)
    (hbusy : s.status = .busy) (hp : p = .flush ∨ p = .preflush ∧ Config.idleHigh = true) :
    (startFlush p s).Inv where
  bench := hbench
  busy := by rcases hp with rfl | ⟨rfl, -⟩ <;> simp [hbusy]
  cidx := hcidx
  fcnt := by simp
  flushing := fun _ => by simp [Config.flushLen]
  preflush := by
    rcases hp with rfl | ⟨-, hi⟩
    · nofun
    · exact fun _ => hi
  chan := by rcases hp with rfl | ⟨rfl, -⟩ <;> simp
  acc := by rcases hp with rfl | ⟨rfl, -⟩ <;> simp

theorem State.Inv.startWrite (h : s.Inv) : (startWrite Config.idleHigh s).Inv := by
  cases hi : Config.idleHigh with
  | true => exact inv_startFlush h.bench h.cidx rfl (.inr ⟨rfl, hi⟩)
  | false => exact h.rest (.inr rfl) (by simp)

theorem State.Inv.latchColour (h : s.Inv) (hbusy : s.status = .busy) (r g b : Byte) :
    (latchColour r g b s).Inv :=
  { h with
    busy := by simp [hbusy], cidx := by simp, flushing := by simp, preflush := nofun
    chan := fun _ => rfl, acc := fun _ => rfl }

/-! ### The attempts (R100 to R102, R133, R137) -/

theorem State.Inv.sendAttempt (h : s.Inv) (b : Byte) : (sendAttempt b s).Inv := by
  rcases sendAttempt_cases b s with ⟨-, heq⟩ | ⟨-, heq⟩ | ⟨e, -, heq⟩ <;> rw [heq]
  · exact h.afterSend b
  · exact { h.afterSend b with }
  · exact (h.afterSend b).rest (.inl rfl) (by simp)

theorem State.Inv.encAdvance (h : s.Inv) (hp : s.phase = .enc) : (encAdvance s).Inv := by
  rcases encAdvance_cases s with ⟨-, heq⟩ | ⟨-, -, heq⟩ | ⟨-, -, hlt, heq⟩ | ⟨-, -, -, heq⟩ <;> rw [heq]
  · exact { h with }
  · exact { h with acc := fun _ => rfl }
  · have hcidx : (s.cidx + 1).toNat ≤ 2 := by bv_omega
    exact { h with cidx := hcidx, chan := fun _ => rfl, acc := fun _ => rfl }
  · exact h.rest (.inr rfl) (by simp [h.busy, hp])

/-- In a flush run the count does not wrap. -/
theorem State.Inv.fcnt_add_one (h : s.Inv) (hf : s.phase = .preflush ∨ s.phase = .flush) :
    (s.fcnt + 1).toNat = s.fcnt.toNat + 1 := by
  have := h.flushing hf
  simp only [Config.flushLen] at this
  bv_omega

/-- A slot of a flush run that is not the last. -/
theorem State.Inv.nextSlot (h : s.Inv) (hf : s.phase = .preflush ∨ s.phase = .flush)
    (hne : s.fcnt.toNat + 1 ≠ Config.flushLen) :
    State.Inv { s with fcnt := s.fcnt + 1, io := .send } := by
  have hlt : (s.fcnt + 1).toNat < Config.flushLen := by
    have := h.flushing hf
    rw [h.fcnt_add_one hf]; omega
  exact { h with fcnt := hlt.le, flushing := fun _ => hlt }

/-- The last slot of a flush run. -/
theorem State.Inv.lastSlot (h : s.Inv) (hf : s.phase = .preflush ∨ s.phase = .flush)
    {p : Phase} {st : Status} (hp : p = .idle ∨ p = .wait) (hst : st = .busy ↔ p ≠ .idle) :
    State.Inv { s with fcnt := s.fcnt + 1, phase := p, status := st } := by
  have hle : (s.fcnt + 1).toNat ≤ Config.flushLen := by
    rw [h.fcnt_add_one hf]; exact h.flushing hf
  have hrest := h.rest hp hst
  exact { hrest with
    fcnt := hle, flushing := by rcases hp with rfl | rfl <;> simp }

theorem State.Inv.preAdvance (h : s.Inv) (hp : s.phase = .preflush) : (preAdvance s).Inv := by
  rcases preAdvance_cases s with ⟨-, heq⟩ | ⟨hne, heq⟩ <;> rw [heq]
  · exact h.lastSlot (.inl hp) (.inr rfl) (by simp [h.busy, hp])
  · exact h.nextSlot (.inl hp) hne

theorem State.Inv.flushAdvance (h : s.Inv) (hp : s.phase = .flush) : (flushAdvance s).Inv := by
  rcases flushAdvance_cases s with ⟨-, heq⟩ | ⟨hne, heq⟩ <;> rw [heq]
  · exact h.lastSlot (.inr hp) (.inl rfl) (by simp)
  · exact h.nextSlot (.inr hp) hne

theorem State.Inv.advance (h : s.Inv) : (advance s).Inv := by
  cases hp : s.phase with
  | idle | wait => simpa only [Machine.advance, hp] using h
  | enc => rw [advance_enc hp]; exact h.encAdvance hp
  | preflush => rw [advance_preflush hp]; exact h.preAdvance hp
  | flush => rw [advance_flush hp]; exact h.flushAdvance hp

theorem State.Inv.recvAttempt (h : s.Inv) : (recvAttempt s).Inv := by
  by_cases ha : s.recvAnswer = .wouldBlock
  · rw [recvAttempt_wouldBlock ha]; exact h.afterRecv
  · rw [recvAttempt_other ha]; exact h.afterRecv.advance

/-- Settles O29: every operation a step can perform keeps the invariant. -/
theorem invariantKept : Obligations.InvariantKept := by
  unfold Obligations.InvariantKept
  intro s t h hstep
  rcases step_cases h.bench hstep with ⟨-, -, rfl⟩ | ⟨w, ws, -, -, -, rfl⟩ |
    ⟨w, ws, r, g, b, hp, -, -, rfl⟩ | ⟨w, ws, hp, -, -, rfl⟩ | ⟨b, -, -, -, rfl⟩ | ⟨-, -, rfl⟩
  · exact h
  · exact (h.accept .start ws).startWrite
  · exact (h.accept _ ws).latchColour (h.busy.2 (by simp [hp])) r g b
  · exact inv_startFlush h.bench h.cidx (h.busy.2 (by simp [hp])) (.inl rfl)
  · exact h.sendAttempt b
  · exact h.recvAttempt

end Sys2Proof.Machine
end

section
/-! PROOFS that registers to which the phase gives no meaning cannot be observed: every operation takes
states that agree to states that agree, so the step does, and so do runs (R40, R190). -/

namespace Sys2Proof.Machine

/-- Two outcomes an observer cannot tell apart: states that agree, or one refusal. -/
inductive AgreeResult : Result → Result → Prop
  | next {s t : State} (h : Agree s t) : AgreeResult (.next s) (.next t)
  | refused (r : Refusal) : AgreeResult (.refused r) (.refused r)

variable {s t : State}

/-! ### What states that agree have in common -/

theorem Agree.sending_eq (h : Agree s t) : t.sending = s.sending := by
  simp only [State.sending, h.phase]

theorem Agree.tokenReady_eq (h : Agree s t) : t.tokenReady = s.tokenReady := by
  simp only [State.tokenReady, h.phase]

theorem Agree.out_eq (h : Agree s t) : t.out = s.out := by
  cases hp : s.phase with
  | idle | wait | preflush | flush => simp only [State.out, h.phase, hp]
  | enc =>
    obtain ⟨-, -, hbsel, -, -, hacc⟩ := h.encoding hp
    simp only [State.out, h.phase, hp, hbsel, hacc]

theorem Agree.sendAnswer_eq (h : Agree s t) : t.sendAnswer = s.sendAnswer := by
  simp only [State.sendAnswer, h.sendScript, h.draws]

theorem Agree.recvAnswer_eq (h : Agree s t) : t.recvAnswer = s.recvAnswer := by
  simp only [State.recvAnswer, h.recvScript, h.draws]

/-! ### Updates of both states -/

theorem Agree.setTokenPort (h : Agree s t) (ws : List Token) :
    Agree { s with tokenPort := ws } { t with tokenPort := ws } := { h with tokenPort := rfl }

theorem Agree.clearSymPort (h : Agree s t) :
    Agree { s with symPort := none } { t with symPort := none } := { h with symPort := rfl }

theorem Agree.setIo (h : Agree s t) (io : Io) : Agree { s with io := io } { t with io := io } :=
  { h with io := fun _ => rfl }

/-- In IDLE and WAIT no register but `PHASE` and `STATUS` has a meaning. -/
theorem Agree.rest (h : Agree s t) {p : Phase} (hp : p = .idle ∨ p = .wait) {st st' : Status}
    (hst : st' = st) :
    Agree { s with phase := p, status := st } { t with phase := p, status := st' } := by
  rcases hp with rfl | rfl <;>
    exact { h with
      phase := rfl, status := hst, io := nofun, encoding := nofun, flushing := by simp }

theorem Agree.shiftSymbol (h : Agree s t) (bit : Bool) :
    Agree (shiftSymbol bit s) (shiftSymbol bit t) :=
  { h with
    encoding := fun he => by
      obtain ⟨hcidx, hhalf, hbsel, hchan, hrgb, hacc⟩ := h.encoding he
      exact ⟨hcidx, hhalf, hbsel, hchan, hrgb, congrArg (shiftIn · bit) hacc⟩ }

/-! ### Tokens (R132, R134, R136) -/

theorem Agree.accept (h : Agree s t) (i : Instr) : Agree (s.accept i) (t.accept i) :=
  { h with trace := by simp only [accept_trace, h.trace] }

theorem Agree.markBusy (h : Agree s t) : Agree s.markBusy t.markBusy := { h with status := rfl }

theorem Agree.startFlush (h : Agree s t) {p : Phase} (hp : p ≠ .enc) :
    Agree (startFlush p s) (startFlush p t) :=
  { h with
    phase := rfl, io := fun _ => rfl, encoding := fun he => absurd he hp, flushing := fun _ => rfl }

theorem Agree.startWrite (h : Agree s t) (idleHigh : Bool) :
    Agree (startWrite idleHigh s) (startWrite idleHigh t) := by
  cases idleHigh with
  | true => exact h.markBusy.startFlush nofun
  | false => exact h.rest (.inr rfl) rfl

theorem Agree.latchColour (h : Agree s t) (r g b : Byte) :
    Agree (latchColour r g b s) (latchColour r g b t) :=
  { h with
    phase := rfl, io := fun _ => rfl, encoding := fun _ => ⟨rfl, rfl, rfl, rfl, rfl, rfl⟩
    flushing := by simp }

theorem execStart_agree (h : Agree s t) : AgreeResult (execStart s) (execStart t) := by
  cases hp : s.phase <;> simp only [execStart, h.phase, hp]
  case idle => exact .next ((h.accept _).startWrite _)
  case wait => exact .refused _
  all_goals exact .next h

theorem execColor_agree (h : Agree s t) (r g b : Byte) :
    AgreeResult (execColor r g b s) (execColor r g b t) := by
  cases hp : s.phase <;> simp only [execColor, h.phase, hp]
  case wait => exact .next ((h.accept _).latchColour r g b)
  case idle => exact .refused _
  all_goals exact .next h

theorem execFinish_agree (h : Agree s t) : AgreeResult (execFinish s) (execFinish t) := by
  cases hp : s.phase <;> simp only [execFinish, h.phase, hp]
  case wait => exact .next ((h.accept _).startFlush nofun)
  case idle => exact .refused _
  all_goals exact .next h

theorem exec_agree_of_decodeToken {w : Token} {i : Instr} (hd : decodeToken w = .ok i)
    (h : Agree s t) : AgreeResult (exec i s) (exec i t) := by
  rcases decodeToken_cases hd with rfl | ⟨r, g, b, rfl⟩ | rfl
  · exact execStart_agree h
  · exact execColor_agree h r g b
  · exact execFinish_agree h

/-! ### The advances (R102, R133, R137) -/

theorem Agree.loadGroup (h : Agree s t) {v v' : Byte} (hv : v' = v) (half : BitVec 1) :
    Agree (loadGroup v half s) (loadGroup v' half t) :=
  { h with
    io := fun _ => rfl
    encoding := fun he => by
      obtain ⟨hcidx, -, -, hchan, hrgb, -⟩ := h.encoding he
      exact ⟨hcidx, rfl, rfl, hchan, hrgb, congrArg (buildAcc · half) hv⟩ }

theorem Agree.loadChannel (h : Agree s t) {i i' : BitVec 2} (hi : i' = i) {c c' : Rgb} (hc : c' = c) :
    Agree (loadChannel i c s) (loadChannel i' c' t) := by
  subst hi hc
  exact { h with
    io := fun _ => rfl
    encoding := fun he => by
      obtain ⟨-, -, -, -, hrgb, -⟩ := h.encoding he
      exact ⟨rfl, rfl, rfl, rfl, hrgb, rfl⟩ }

/-- Both states take the same branch. -/
theorem Agree.ite {s₁ t₁ s₂ t₂ : State} {p q : Prop} [Decidable p] [Decidable q] (hpq : q ↔ p)
    (hpos : p → Agree s₁ t₁) (hneg : ¬p → Agree s₂ t₂) :
    Agree (if p then s₁ else s₂) (if q then t₁ else t₂) := by
  by_cases hp : p
  · rw [if_pos hp, if_pos (hpq.2 hp)]; exact hpos hp
  · rw [if_neg hp, if_neg (mt hpq.1 hp)]; exact hneg hp

theorem encAdvance_agree (h : Agree s t) (hp : s.phase = .enc) :
    Agree (encAdvance s) (encAdvance t) := by
  obtain ⟨hcidx, hhalf, hbsel, hchan, hrgb, hacc⟩ := h.encoding hp
  unfold encAdvance
  refine .ite (by rw [hbsel]) (fun _ => ?_) fun _ =>
    .ite (by rw [hhalf]) (fun _ => ?_) fun _ => .ite (by rw [hcidx]) (fun _ => ?_) fun _ => ?_
  · exact { h with
      io := fun _ => rfl, encoding := fun _ => ⟨hcidx, hhalf, rfl, hchan, hrgb, hacc⟩ }
  · exact h.loadGroup hchan 1
  · exact h.loadChannel (congrArg (· + 1) hcidx) hrgb
  · exact h.rest (.inr rfl) h.status

/-- A flush run counts alike in both states. -/
theorem Agree.countSlot (h : Agree s t) (hf : s.phase = .preflush ∨ s.phase = .flush) :
    Agree { s with fcnt := s.fcnt + 1 } { t with fcnt := t.fcnt + 1 } :=
  { h with flushing := fun _ => congrArg (· + 1) (h.flushing hf) }

theorem preAdvance_agree (h : Agree s t) (hp : s.phase = .preflush) :
    Agree (preAdvance s) (preAdvance t) := by
  have hcount := h.countSlot (.inl hp)
  unfold preAdvance
  refine .ite (by rw [h.flushing (.inl hp)]) (fun _ => ?_) fun _ => ?_
  · exact hcount.rest (.inr rfl) h.status
  · exact hcount.setIo .send

theorem flushAdvance_agree (h : Agree s t) (hp : s.phase = .flush) :
    Agree (flushAdvance s) (flushAdvance t) := by
  have hcount := h.countSlot (.inr hp)
  unfold flushAdvance
  refine .ite (by rw [h.flushing (.inr hp)]) (fun _ => ?_) fun _ => ?_
  · exact hcount.rest (.inl rfl) rfl
  · exact hcount.setIo .send

theorem advance_agree (h : Agree s t) : Agree (advance s) (advance t) := by
  cases hp : s.phase with
  | idle | wait => simpa only [advance, h.phase, hp] using h
  | enc => rw [advance_enc hp, advance_enc (h.phase.trans hp)]; exact encAdvance_agree h hp
  | preflush =>
    rw [advance_preflush hp, advance_preflush (h.phase.trans hp)]; exact preAdvance_agree h hp
  | flush => rw [advance_flush hp, advance_flush (h.phase.trans hp)]; exact flushAdvance_agree h hp

/-! ### The attempts (R100, R101) -/

theorem Agree.afterSend (h : Agree s t) (b : Byte) : Agree (s.afterSend b) (t.afterSend b) :=
  { h with
    sendScript := congrArg List.tail h.sendScript
    draws := by simp only [afterSend_draws, h.sendScript, h.draws]
    trace := by simp only [afterSend_trace, h.trace, h.sendAnswer_eq] }

theorem Agree.afterRecv (h : Agree s t) : Agree s.afterRecv t.afterRecv :=
  { h with
    recvScript := congrArg List.tail h.recvScript
    draws := by simp only [afterRecv_draws, h.recvScript, h.draws]
    trace := by simp only [afterRecv_trace, h.trace, h.recvAnswer_eq] }

theorem sendAttempt_agree (h : Agree s t) (b : Byte) :
    Agree (sendAttempt b s) (sendAttempt b t) := by
  have hafter := h.afterSend b
  have ha := h.sendAnswer_eq
  rcases sendAttempt_cases b s with ⟨hs, heq⟩ | ⟨hs, heq⟩ | ⟨e, hs, heq⟩ <;> rw [heq]
  · rw [sendAttempt_wouldBlock b (ha.trans hs)]; exact hafter
  · rw [sendAttempt_ok b (ha.trans hs)]; exact hafter.setIo .recv
  · rw [sendAttempt_err b (ha.trans hs)]; exact hafter.rest (.inl rfl) rfl

theorem recvAttempt_agree (h : Agree s t) : Agree (recvAttempt s) (recvAttempt t) := by
  have ha := h.recvAnswer_eq
  by_cases hs : s.recvAnswer = .wouldBlock
  · rw [recvAttempt_wouldBlock hs, recvAttempt_wouldBlock (ha.trans hs)]; exact h.afterRecv
  · rw [recvAttempt_other hs, recvAttempt_other (ha ▸ hs)]; exact advance_agree h.afterRecv

/-! ### The step and the run -/

/-- A step on the bench port's symbol (log 5). -/
theorem step_agree_of_symPort {n : Nibble} (h : Agree s t) (hs : s.symPort = some n) :
    AgreeResult (step s) (step t) := by
  have ht := h.symPort.trans hs
  cases hd : decodeSymbol n with
  | error e => simp only [step, fetch, hs, ht, fetchSymbol, hd]; exact .refused _
  | ok i =>
    simp only [step, fetch, hs, ht, fetchSymbol, hd]
    rcases decodeSymbol_cases hd with rfl | rfl
    · exact .next (h.clearSymPort.shiftSymbol false)
    · exact .next (h.clearSymPort.shiftSymbol true)

/-- A step in IDLE or WAIT (R131). -/
theorem step_agree_of_tokenReady (h : Agree s t) (hs : s.symPort = none)
    (hr : s.tokenReady = true) : AgreeResult (step s) (step t) := by
  have hs' := h.symPort.trans hs
  have hr' := h.tokenReady_eq.trans hr
  cases hp : s.tokenPort with
  | nil => rw [step_hold hs hr hp, step_hold hs' hr' (h.tokenPort.trans hp)]; exact .next h
  | cons w ws =>
    have hp' := h.tokenPort.trans hp
    cases hd : decodeToken w with
    | error e => rw [step_reserved hs hr hp hd, step_reserved hs' hr' hp' hd]; exact .refused _
    | ok i =>
      rw [step_token hs hr hp hd, step_token hs' hr' hp' hd]
      exact exec_agree_of_decodeToken hd (h.setTokenPort ws)

/-- A step in a sending phase (R100, R101). -/
theorem step_agree_of_sending (h : Agree s t) (hs : s.symPort = none)
    (hsend : s.sending = true) : AgreeResult (step s) (step t) := by
  have hs' := h.symPort.trans hs
  cases hio : s.io with
  | send =>
    obtain ⟨b, hout⟩ := (sending_iff_out s).1 hsend
    rw [step_send hs hio hout, step_send hs' ((h.io hsend).trans hio) (h.out_eq.trans hout)]
    exact .next (sendAttempt_agree h b)
  | recv =>
    rw [step_recv hs hio hsend, step_recv hs' ((h.io hsend).trans hio) (h.sending_eq.trans hsend)]
    exact .next (recvAttempt_agree h)

theorem step_agree (h : Agree s t) : AgreeResult (step s) (step t) := by
  cases hs : s.symPort with
  | some n => exact step_agree_of_symPort h hs
  | none =>
    cases hsend : s.sending with
    | true => exact step_agree_of_sending h hs hsend
    | false => exact step_agree_of_tokenReady h hs ((tokenReady_iff_not_sending s).2 hsend)

theorem run_agree (k : Nat) (h : Agree s t) :
    AgreeResult (Host.Core.run Sys2Proof.core k s) (Host.Core.run Sys2Proof.core k t) := by
  induction k generalizing s t with
  | zero => exact .next h
  | succ k ih =>
    have hstep := step_agree h
    simp only [Host.Core.run, Sys2Proof.core]
    generalize step s = x at hstep ⊢
    generalize step t = y at hstep ⊢
    cases hstep with
    | next h' => exact ih h'
    | refused r => exact .refused r

/-- Settles O37: runs of states that agree have outcomes that agree. -/
theorem unspecifiedUnobservable : Obligations.UnspecifiedUnobservable := by
  unfold Obligations.UnspecifiedUnobservable
  intro k s t h
  have hrun := run_agree k h
  refine ⟨fun s' hs' => ?_, fun r hr => ?_⟩
  · rw [show Host.Core.run Sys2Proof.core k s = .next s' from hs'] at hrun
    generalize hy : Host.Core.run Sys2Proof.core k t = y at hrun
    cases hrun with
    | next h' => exact ⟨_, hy, h'⟩
  · rw [hr] at hrun
    generalize Host.Core.run Sys2Proof.core k t = y at hrun ⊢
    cases hrun with
    | refused => rfl

end Sys2Proof.Machine
end

section
/-! PROOFS of when `STATUS` changes (R31, R171) and of the current output byte (R33). -/

namespace Sys2Proof.Machine

variable {s : State}

theorem startWrite_status (idleHigh : Bool) (s : State) : (startWrite idleHigh s).status = .busy := by
  cases idleHigh <;> rfl

theorem startWrite_trace (idleHigh : Bool) (s : State) : (startWrite idleHigh s).trace = s.trace := by
  cases idleHigh <;> rfl

/-- An advance changes `STATUS` only where it completes the trailer (R138). -/
theorem advance_status (s : State) :
    (advance s).status = s.status ∨
    (s.phase = .flush ∧ (advance s).phase = .idle ∧ (advance s).status = .ok) := by
  cases hp : s.phase with
  | idle | wait => left; simp only [advance, hp]
  | enc =>
    left
    rw [advance_enc hp]
    rcases encAdvance_cases s with ⟨-, h⟩ | ⟨-, -, h⟩ | ⟨-, -, -, h⟩ | ⟨-, -, -, h⟩ <;> simp [h]
  | preflush =>
    left
    rw [advance_preflush hp]
    rcases preAdvance_cases s with ⟨-, h⟩ | ⟨-, h⟩ <;> simp [h]
  | flush =>
    rw [advance_flush hp]
    rcases flushAdvance_cases s with ⟨-, h⟩ | ⟨-, h⟩ <;> simp [h]

theorem recvAttempt_status (s : State) :
    (recvAttempt s).status = s.status ∨
    (s.phase = .flush ∧ (recvAttempt s).phase = .idle ∧ (recvAttempt s).status = .ok) := by
  by_cases ha : s.recvAnswer = .wouldBlock
  · rw [recvAttempt_wouldBlock ha]; exact .inl rfl
  · rw [recvAttempt_other ha]; exact advance_status s.afterRecv

/-- A send attempt changes `STATUS` only where it aborts the write (R174). -/
theorem sendAttempt_status (b : Byte) (s : State) :
    (sendAttempt b s).status = s.status ∨
    ∃ e, s.sendAnswer = .err e ∧ (sendAttempt b s).phase = .idle ∧ (sendAttempt b s).status = .err e := by
  rcases sendAttempt_cases b s with ⟨-, h⟩ | ⟨-, h⟩ | ⟨e, ha, h⟩ <;> rw [h]
  · exact .inl rfl
  · exact .inl rfl
  · exact .inr ⟨e, ha, rfl, rfl⟩

/-- Settles O34: of all a step can do, only START, the drain that completes the trailer and a send that
fails write `STATUS`. -/
theorem statusChanges : Obligations.StatusChanges := by
  unfold Obligations.StatusChanges
  intro s t hstep hne
  cases hs : s.symPort with
  | some n =>
    obtain ⟨bit, rfl⟩ := step_symbol_cases hs hstep
    exact absurd rfl hne
  | none =>
    rcases step_cases hs hstep with ⟨-, -, rfl⟩ | ⟨w, ws, hp, -, -, rfl⟩ |
      ⟨w, ws, r, g, b, -, -, -, rfl⟩ | ⟨w, ws, -, -, -, rfl⟩ | ⟨b, -, -, -, rfl⟩ | ⟨-, -, rfl⟩
    · exact absurd rfl hne
    · exact .inl ⟨hp, startWrite_status .., startWrite_trace ..⟩
    · exact absurd rfl hne
    · exact absurd rfl hne
    · obtain ⟨e, ha, hidle, herr⟩ := (sendAttempt_status b s).resolve_left hne
      obtain ⟨-, htrace, -⟩ := sendAttempt_ports b s
      exact .inr (.inr ⟨b, e, hidle, herr, by rw [htrace, ha]⟩)
    · exact .inr (.inl ((recvAttempt_status s).resolve_left hne))

theorem out_enc (hp : s.phase = .enc) :
    s.out = some (if s.bsel = 0 then accHigh s.acc else accLow s.acc) := by
  simp only [State.out, hp]

/-- Settles O20, phase by phase. -/
theorem outputByte : Obligations.OutputByte := by
  unfold Obligations.OutputByte
  intro s
  refine ⟨fun hp => out_flushing (.inl hp), fun hp => out_flushing (.inr hp), fun hp hb => ?_,
    fun hp hb => ?_, (out_none_iff s).symm⟩
  · rw [out_enc hp, if_pos hb]; rfl
  · rw [out_enc hp, if_neg (by simp [hb])]; rfl

end Sys2Proof.Machine
end

section
/-! PROOFS of what the transport attempts do, alone (R51, R52), while they are retried (R53, R54), and in a
byte slot (R55). -/

namespace Sys2Proof.Machine

variable {s t u : State} {b : Byte} {j k : Nat}

/-! ### An attempt by itself (R51, R52) -/

theorem sameBlock_afterSend (b : Byte) (s : State) : SameBlock s (s.afterSend b) :=
  ⟨rfl, rfl, rfl, rfl, rfl, rfl, rfl, rfl, rfl, rfl⟩

theorem sameBlock_afterRecv (s : State) : SameBlock s s.afterRecv :=
  ⟨rfl, rfl, rfl, rfl, rfl, rfl, rfl, rfl, rfl, rfl⟩

/-- Settles O18: an attempt is its own record and one answer used. -/
theorem attemptsTouchNoRegister : Obligations.AttemptsTouchNoRegister := by
  unfold Obligations.AttemptsTouchNoRegister
  intro s b
  refine ⟨sameBlock_afterSend b s, rfl, rfl, rfl, fun a as hs => ⟨sendAnswer_of_script hs, ?_⟩,
    sameBlock_afterRecv s, rfl, rfl, rfl, fun a as hs => ⟨recvAnswer_of_script hs, ?_⟩⟩
  · rw [afterSend_sendScript, hs, List.tail_cons]
  · rw [afterRecv_recvScript, hs, List.tail_cons]

/-! ### Runs that only make attempts -/

/-- A run of `k` steps from `s` to `t` makes the attempts of `x`, leaves the answers `x` leaves, takes no
token, and the bench port stays empty (log 5). How `x` ends says nothing here: it decides the registers. -/
structure Performs (s : State) (k : Nat) (t : State) (x : Transfer) : Prop where
  reaches : Reaches s k t
  bench : t.symPort = none
  tokenPort : t.tokenPort = s.tokenPort
  trace : t.trace = s.trace ++ x.events
  sendScript : t.sendScript = x.sends
  recvScript : t.recvScript = x.recvs

theorem performs_refl (hs : s.symPort = none) (e : Ending) :
    Performs s 0 s ⟨[], e, s.sendScript, s.recvScript⟩ :=
  ⟨reaches_refl s, hs, rfl, (List.append_nil _).symm, rfl, rfl⟩

/-- Runs of attempts compose, the later one's answers and ending being those of the whole. -/
theorem Performs.trans {x y : Transfer} (h : Performs s j u x) (h' : Performs u k t y) :
    Performs s (j + k) t { y with events := x.events ++ y.events } where
  reaches := reaches_trans h.reaches h'.reaches
  bench := h'.bench
  tokenPort := h'.tokenPort.trans h.tokenPort
  trace := by rw [h'.trace, h.trace, List.append_assoc]
  sendScript := h'.sendScript
  recvScript := h'.recvScript

/-- One send attempt under the script's answer (R51, R100). -/
theorem performs_sendAttempt {a : SendAnswer} {as : List SendAnswer} (hs : s.symPort = none)
    (hio : s.io = .send) (hout : s.out = some b) (ha : s.sendScript = a :: as) (e : Ending) :
    Performs s 1 (sendAttempt b s) ⟨[.send b a], e, as, s.recvScript⟩ := by
  obtain ⟨htoken, htrace, hbench, hsends, hrecvs, -⟩ := sendAttempt_ports b s
  exact {
    reaches := reaches_step (step_send hs hio hout)
    bench := hbench.trans hs
    tokenPort := htoken
    trace := by rw [htrace, sendAnswer_of_script ha]
    sendScript := by rw [hsends, ha, List.tail_cons]
    recvScript := hrecvs }

/-- One receive attempt under the script's answer (R52, R101). -/
theorem performs_recvAttempt {a : RecvAnswer} {rs : List RecvAnswer} (hs : s.symPort = none)
    (hsend : s.sending = true) (hio : s.io = .recv) (ha : s.recvScript = a :: rs) (e : Ending) :
    Performs s 1 (recvAttempt s) ⟨[.recv a], e, s.sendScript, rs⟩ := by
  obtain ⟨htoken, htrace, hbench, hsends, hrecvs⟩ := recvAttempt_ports s
  exact {
    reaches := reaches_step (step_recv hs hio hsend)
    bench := hbench.trans hs
    tokenPort := htoken
    trace := by rw [htrace, recvAnswer_of_script ha]
    sendScript := hsends
    recvScript := by rw [hrecvs, ha, List.tail_cons] }

/-- A send attempt answered `WouldBlock` leaves all as it was, to be attempted again (R53). -/
theorem performs_send_wouldBlock {as : List SendAnswer} (hs : s.symPort = none)
    (hio : s.io = .send) (hout : s.out = some b) (ha : s.sendScript = .wouldBlock :: as) (e : Ending) :
    Performs s 1 (s.afterSend b) ⟨[.send b .wouldBlock], e, as, s.recvScript⟩ := by
  rw [← sendAttempt_wouldBlock b (sendAnswer_of_script ha)]
  exact performs_sendAttempt hs hio hout ha e

/-- A receive attempt answered `WouldBlock` leaves all as it was, to be attempted again (R54). -/
theorem performs_recv_wouldBlock {rs : List RecvAnswer} (hs : s.symPort = none)
    (hsend : s.sending = true) (hio : s.io = .recv) (ha : s.recvScript = .wouldBlock :: rs)
    (e : Ending) :
    Performs s 1 s.afterRecv ⟨[.recv .wouldBlock], e, s.sendScript, rs⟩ := by
  rw [← recvAttempt_wouldBlock (recvAnswer_of_script ha)]
  exact performs_recvAttempt hs hsend hio ha e

/-! ### Retries (R53, R54, R196, R197) -/

/-- `n` send attempts answered `WouldBlock`. -/
theorem performs_sendRetries (n : Nat) {as : List SendAnswer} (hs : s.symPort = none)
    (hio : s.io = .send) (hout : s.out = some b)
    (hscript : s.sendScript = List.replicate n SendAnswer.wouldBlock ++ as) :
    ∃ t, SameBlock s t ∧
      Performs s n t ⟨List.replicate n (Event.send b .wouldBlock), .waiting, as, s.recvScript⟩ := by
  induction n generalizing s with
  | zero =>
    obtain rfl : s.sendScript = as := hscript
    exact ⟨s, .refl s, performs_refl hs _⟩
  | succ n ih =>
    have hfirst := performs_send_wouldBlock hs hio hout hscript .waiting
    obtain ⟨t, hsame, hrest⟩ := ih (s := s.afterSend b) hs hio hout (by simp [hscript])
    have hall := hfirst.trans hrest
    rw [Nat.add_comm] at hall
    exact ⟨t, (sameBlock_afterSend b s).trans hsame, hall⟩

/-- `n` receive attempts answered `WouldBlock`. -/
theorem performs_recvRetries (n : Nat) {rs : List RecvAnswer} (hs : s.symPort = none)
    (hsend : s.sending = true) (hio : s.io = .recv)
    (hscript : s.recvScript = List.replicate n RecvAnswer.wouldBlock ++ rs) :
    ∃ t, SameBlock s t ∧
      Performs s n t ⟨List.replicate n (Event.recv .wouldBlock), .waiting, s.sendScript, rs⟩ := by
  induction n generalizing s with
  | zero =>
    obtain rfl : s.recvScript = rs := hscript
    exact ⟨s, .refl s, performs_refl hs _⟩
  | succ n ih =>
    have hfirst := performs_recv_wouldBlock hs hsend hio hscript .waiting
    obtain ⟨t, hsame, hrest⟩ := ih (s := s.afterRecv) hs hsend hio (by simp [hscript])
    have hall := hfirst.trans hrest
    rw [Nat.add_comm] at hall
    exact ⟨t, (sameBlock_afterRecv s).trans hsame, hall⟩

/-- Settles O25, by induction on the number of retries. -/
theorem sendRetried : Obligations.SendRetried := by
  unfold Obligations.SendRetried
  intro n s b as hs hio hout hscript
  obtain ⟨t, hsame, h⟩ := performs_sendRetries n hs hio hout hscript
  exact ⟨t, h.reaches, hsame, h.sendScript, h.recvScript, h.tokenPort, h.trace⟩

/-- Settles O26, by induction on the number of retries. -/
theorem drainRetried : Obligations.DrainRetried := by
  unfold Obligations.DrainRetried
  intro n s rs hs hsend hio hscript
  obtain ⟨t, hsame, h⟩ := performs_recvRetries n hs hsend hio hscript
  exact ⟨t, h.reaches, hsame, h.recvScript, h.sendScript, h.tokenPort, h.trace⟩

/-- A send operation: retries, then the attempt whose answer is `a`. -/
theorem performs_sendOperation (n : Nat) {a : SendAnswer} {as : List SendAnswer} (hs : s.symPort = none)
    (hio : s.io = .send) (hout : s.out = some b)
    (hscript : s.sendScript = List.replicate n SendAnswer.wouldBlock ++ a :: as) (e : Ending) :
    ∃ u, SameBlock s u ∧ u.sendAnswer = a ∧ Performs s (n + 1) (sendAttempt b u)
      ⟨List.replicate n (Event.send b .wouldBlock) ++ [.send b a], e, as, s.recvScript⟩ := by
  obtain ⟨u, hsame, hretries⟩ := performs_sendRetries n hs hio hout hscript
  have hlast := performs_sendAttempt hretries.bench (hsame.io.trans hio) (hsame.out_eq.trans hout)
    hretries.sendScript e
  rw [hretries.recvScript] at hlast
  exact ⟨u, hsame, sendAnswer_of_script hretries.sendScript, hretries.trans hlast⟩

/-- A receive operation: retries, then the attempt whose answer is `a`. -/
theorem performs_recvOperation (n : Nat) {a : RecvAnswer} {rs : List RecvAnswer} (hs : s.symPort = none)
    (hsend : s.sending = true) (hio : s.io = .recv)
    (hscript : s.recvScript = List.replicate n RecvAnswer.wouldBlock ++ a :: rs) (e : Ending) :
    ∃ u, SameBlock s u ∧ u.recvAnswer = a ∧ Performs s (n + 1) (recvAttempt u)
      ⟨List.replicate n (Event.recv .wouldBlock) ++ [.recv a], e, s.sendScript, rs⟩ := by
  obtain ⟨u, hsame, hretries⟩ := performs_recvRetries n hs hsend hio hscript
  have hlast := performs_recvAttempt hretries.bench (hsame.sending_eq.trans hsend)
    (hsame.io.trans hio) hretries.recvScript e
  rw [hretries.sendScript] at hlast
  exact ⟨u, hsame, recvAnswer_of_script hretries.recvScript, hretries.trans hlast⟩

/-! ### An advance reads registers only (R101) -/

/-- The registers of `s` with the ports and the record of `p`. -/
def State.withPorts (p s : State) : State :=
  { s with
    tokenPort := p.tokenPort
    sendScript := p.sendScript
    recvScript := p.recvScript
    draws := p.draws
    trace := p.trace
    symPort := p.symPort }

theorem sameBlock_withPorts (p s : State) : SameBlock s (State.withPorts p s) :=
  ⟨rfl, rfl, rfl, rfl, rfl, rfl, rfl, rfl, rfl, rfl⟩

/-- Same registers means equal but for the ports and the record. -/
theorem SameBlock.eq_withPorts (h : SameBlock s t) : t = State.withPorts t s := by
  obtain ⟨hphase, hio, hcidx, hhalf, hbsel, hchan, hrgb, hacc, hfcnt, hstatus⟩ := h
  cases t
  simp only [State.withPorts, ← hphase, ← hio, ← hcidx, ← hhalf, ← hbsel, ← hchan, ← hrgb, ← hacc,
    ← hfcnt, ← hstatus]

theorem advance_withPorts (p s : State) :
    advance (State.withPorts p s) = State.withPorts p (advance s) := by
  have hp : (State.withPorts p s).phase = s.phase := rfl
  simp only [advance, hp]
  cases s.phase with
  | idle | wait => rfl
  | enc => simp only [encAdvance, apply_ite (State.withPorts p)]; rfl
  | preflush => simp only [preAdvance, apply_ite (State.withPorts p)]; rfl
  | flush => simp only [flushAdvance, apply_ite (State.withPorts p)]; rfl

/-- States with the same registers advance to states with the same registers. -/
theorem SameBlock.advance (h : SameBlock s t) : SameBlock (advance s) (advance t) := by
  rw [h.eq_withPorts, advance_withPorts]
  exact sameBlock_withPorts t _

/-! ### The composite operations by their answers (R53, R54, R55) -/

/-- Everything BlockingSend can do. -/
theorem blockingSend_cases (b : Byte) (rs : List RecvAnswer) (as : List SendAnswer) :
    (blockingSend b rs as).ending = .waiting ∨
    (∃ n as', as = List.replicate n SendAnswer.wouldBlock ++ .ok :: as' ∧ blockingSend b rs as =
      ⟨List.replicate n (Event.send b .wouldBlock) ++ [.send b .ok], .done, as', rs⟩) ∨
    ∃ n e as', as = List.replicate n SendAnswer.wouldBlock ++ .err e :: as' ∧ blockingSend b rs as =
      ⟨List.replicate n (Event.send b .wouldBlock) ++ [.send b (.err e)], .failed e, as', rs⟩ := by
  induction as with
  | nil => exact .inl rfl
  | cons a as ih =>
    cases a with
    | ok => exact .inr (.inl ⟨0, as, rfl, rfl⟩)
    | err e => exact .inr (.inr ⟨0, e, as, rfl, rfl⟩)
    | wouldBlock =>
      rcases ih with h | ⟨n, as', rfl, h⟩ | ⟨n, e, as', rfl, h⟩
      · exact .inl h
      · exact .inr (.inl ⟨n + 1, as', rfl, by rw [blockingSend, h]; rfl⟩)
      · exact .inr (.inr ⟨n + 1, e, as', rfl, by rw [blockingSend, h]; rfl⟩)

/-- Everything Drain can do. -/
theorem drain_cases (as : List SendAnswer) (rs : List RecvAnswer) :
    (drain as rs).ending = .waiting ∨
    ∃ n a rs', a ≠ .wouldBlock ∧ rs = List.replicate n RecvAnswer.wouldBlock ++ a :: rs' ∧ drain as rs =
      ⟨List.replicate n (Event.recv .wouldBlock) ++ [.recv a], .done, as, rs'⟩ := by
  induction rs with
  | nil => exact .inl rfl
  | cons a rs ih =>
    cases a with
    | value v => exact .inr ⟨0, .value v, rs, nofun, rfl, rfl⟩
    | err e => exact .inr ⟨0, .err e, rs, nofun, rfl, rfl⟩
    | wouldBlock =>
      rcases ih with h | ⟨n, a, rs', ha, rfl, h⟩
      · exact .inl h
      · exact .inr ⟨n + 1, a, rs', ha, rfl, by rw [drain, h]; rfl⟩

/-- A BlockingSend that is done leaves the block at the drain (R53, R100). -/
theorem performs_blockingSend_done (hs : s.symPort = none) (hio : s.io = .send) (hout : s.out = some b)
    (hdone : (blockingSend b s.recvScript s.sendScript).ending = .done) :
    ∃ k t, Performs s k t (blockingSend b s.recvScript s.sendScript) ∧
      SameBlock { s with io := .recv } t := by
  rcases blockingSend_cases b s.recvScript s.sendScript with h | ⟨n, as, hscript, h⟩ | ⟨n, e, as, -, h⟩
  · cases h.symm.trans hdone
  · obtain ⟨u, hsame, ha, hperf⟩ := performs_sendOperation n hs hio hout hscript .done
    rw [sendAttempt_ok b ha] at hperf
    rw [h]
    exact ⟨_, _, hperf, { hsame with io := rfl }⟩
  · rw [h] at hdone; cases hdone

/-- A BlockingSend that fails aborts the write (R53, R174). -/
theorem performs_blockingSend_failed {e : TransportErr} (hs : s.symPort = none) (hio : s.io = .send)
    (hout : s.out = some b)
    (hfailed : (blockingSend b s.recvScript s.sendScript).ending = .failed e) :
    ∃ k t, Performs s k t (blockingSend b s.recvScript s.sendScript) ∧
      SameBlock { s with status := .err e, phase := .idle } t := by
  rcases blockingSend_cases b s.recvScript s.sendScript with h | ⟨n, as, -, h⟩ | ⟨n, e', as, hscript, h⟩
  · cases h.symm.trans hfailed
  · rw [h] at hfailed; cases hfailed
  · obtain rfl : e' = e := by rw [h] at hfailed; cases hfailed; rfl
    obtain ⟨u, hsame, ha, hperf⟩ := performs_sendOperation n hs hio hout hscript (.failed e')
    rw [sendAttempt_err b ha] at hperf
    rw [h]
    exact ⟨_, _, hperf, { hsame with status := rfl, phase := rfl }⟩

/-- A Drain that is done advances the block (R54, R101). -/
theorem performs_drain (hs : s.symPort = none) (hsend : s.sending = true) (hio : s.io = .recv)
    (hdone : (drain s.sendScript s.recvScript).ending = .done) :
    ∃ k t, Performs s k t (drain s.sendScript s.recvScript) ∧ SameBlock (advance s) t := by
  rcases drain_cases s.sendScript s.recvScript with h | ⟨n, a, rs, hne, hscript, h⟩
  · cases h.symm.trans hdone
  · obtain ⟨u, hsame, ha, hperf⟩ := performs_recvOperation n hs hsend hio hscript .done
    rw [recvAttempt_other (by rwa [ha])] at hperf
    rw [h]
    exact ⟨_, _, hperf, (hsame.trans (sameBlock_afterRecv u)).advance⟩

/-! ### The byte slot (R55) -/

/-- After a send that is done comes the drain. -/
theorem byteSlot_of_done {as : List SendAnswer} {rs : List RecvAnswer}
    (h : (blockingSend b rs as).ending = .done) :
    byteSlot b as rs =
      { drain (blockingSend b rs as).sends (blockingSend b rs as).recvs with
        events := (blockingSend b rs as).events ++
          (drain (blockingSend b rs as).sends (blockingSend b rs as).recvs).events } := by
  simp only [byteSlot, Transfer.andThen, h]

/-- After any other ending of the send comes nothing. -/
theorem byteSlot_of_ne_done {as : List SendAnswer} {rs : List RecvAnswer}
    (h : (blockingSend b rs as).ending ≠ .done) : byteSlot b as rs = blockingSend b rs as := by
  rw [byteSlot, Transfer.andThen]
  split
  · contradiction
  · rfl
  · rfl

/-- A drain never fails: its errors are discarded. -/
theorem drain_ending_ne_failed (as : List SendAnswer) (rs : List RecvAnswer) (e : TransportErr) :
    (drain as rs).ending ≠ .failed e := by
  rcases drain_cases as rs with h | ⟨n, a, rs', -, -, h⟩ <;> simp [h]

/-- A byte slot that is done advances the block (R55, R101). -/
theorem performs_byteSlot_done (hs : s.symPort = none) (hio : s.io = .send) (hout : s.out = some b)
    (hdone : (byteSlot b s.sendScript s.recvScript).ending = .done) :
    ∃ k t, Performs s k t (byteSlot b s.sendScript s.recvScript) ∧
      SameBlock (advance { s with io := .recv }) t := by
  by_cases hsent : (blockingSend b s.recvScript s.sendScript).ending = .done
  · rw [byteSlot_of_done hsent] at hdone ⊢
    obtain ⟨j, u, hfirst, hsame⟩ := performs_blockingSend_done hs hio hout hsent
    have hsend : u.sending = true := (sending_iff_out u).2 ⟨b, hsame.out_eq.trans hout⟩
    rw [← hfirst.sendScript, ← hfirst.recvScript] at hdone ⊢
    obtain ⟨k, t, hrest, hadvance⟩ := performs_drain hfirst.bench hsend hsame.io hdone
    exact ⟨_, t, hfirst.trans hrest, hsame.advance.trans hadvance⟩
  · rw [byteSlot_of_ne_done hsent] at hdone
    exact absurd hdone hsent

/-- A byte slot fails where its send does: no drain (R55, R174). -/
theorem performs_byteSlot_failed {e : TransportErr} (hs : s.symPort = none) (hio : s.io = .send)
    (hout : s.out = some b) (hfailed : (byteSlot b s.sendScript s.recvScript).ending = .failed e) :
    ∃ k t, Performs s k t (byteSlot b s.sendScript s.recvScript) ∧
      SameBlock { s with status := .err e, phase := .idle } t := by
  by_cases hsent : (blockingSend b s.recvScript s.sendScript).ending = .done
  · rw [byteSlot_of_done hsent] at hfailed
    exact absurd hfailed (drain_ending_ne_failed _ _ e)
  · rw [byteSlot_of_ne_done hsent] at hfailed ⊢
    exact performs_blockingSend_failed hs hio hout hfailed

/-- Settles O41: the send operation, then, if it is done, the receive operation. -/
theorem byteSlotRefined : Obligations.ByteSlotRefined := by
  unfold Obligations.ByteSlotRefined
  intro s b hs hio hout
  constructor
  · intro hdone
    obtain ⟨k, t, h, hsame⟩ := performs_byteSlot_done hs hio hout hdone
    exact ⟨k, t, h.reaches, hsame, h.tokenPort, h.trace, h.sendScript, h.recvScript⟩
  · intro e hfailed
    obtain ⟨k, t, h, hsame⟩ := performs_byteSlot_failed hs hio hout hfailed
    exact ⟨k, t, h.reaches, hsame.phase, hsame.status, h.tokenPort, h.trace, h.sendScript,
      h.recvScript⟩

end Sys2Proof.Machine
end

section
/-! PROOFS of the transport port's order of attempts (R55, R62, R64): one rule per event, one per operation,
then the step. -/

namespace Sys2Proof.Machine

variable {s : State}

/-- One more event moves the port by one `Slot.next`. -/
theorem slotAfter_concat {evs : List Event} {p : Slot} (h : slotAfter evs = some p) (e : Event) :
    slotAfter (evs ++ [e]) = p.next e := by
  simp only [slotAfter, List.foldlM_append, List.foldlM_cons, List.foldlM_nil, bind_pure] at h ⊢
  rw [h]; rfl

/-- Where nothing is outstanding, the port is in order if a send attempt comes next or none at all. -/
theorem portInv_of_ready (hbench : s.symPort = none) (hready : slotAfter s.trace = some .ready)
    (hio : s.sending = true → s.io = .send) : s.PortInv where
  bench := hbench
  atRest := fun _ => hready
  atSend := fun _ _ => .inl hready
  atDrain := fun hsend hrecv => by simp [hio hsend] at hrecv

/-- Where a drain is outstanding, the port is in order if the receive attempt comes next. -/
theorem portInv_of_draining (hbench : s.symPort = none) (hdrain : slotAfter s.trace = some .draining)
    (hsend : s.sending = true) (hio : s.io = .recv) : s.PortInv where
  bench := hbench
  atRest := fun hrest => absurd hsend (Bool.eq_false_iff.1 hrest)
  atSend := fun _ hsendNext => nomatch hio.symm.trans hsendNext
  atDrain := fun _ _ => hdrain

/-! ### Tokens (R62, R132, R134, R136) -/

/-- A token is taken only with nothing outstanding, and that is so afterwards. -/
theorem State.PortInv.slotAfter_accept (h : s.PortInv) (hp : s.phase = .idle ∨ s.phase = .wait)
    (i : Instr) : slotAfter (s.trace ++ [.accept i]) = some .ready := by
  have hrest : s.sending = false := by rcases hp with hp | hp <;> simp [State.sending, hp]
  exact slotAfter_concat (h.atRest hrest) _

theorem startWrite_io (idleHigh : Bool) (hsend : (startWrite idleHigh s).sending = true) :
    (startWrite idleHigh s).io = .send := by
  cases idleHigh with
  | true => rfl
  | false => cases hsend

/-! ### The send attempt (R53, R100) -/

/-- A byte may be offered with nothing outstanding, or again while it is not taken. -/
theorem State.PortInv.slotAfter_send {b : Byte} (h : s.PortInv) (hsend : s.sending = true)
    (hio : s.io = .send) (hout : s.out = some b) (a : SendAnswer) :
    slotAfter (s.trace ++ [.send b a]) = some (Slot.afterAnswer b a) := by
  rcases h.atSend hsend hio with hready | ⟨b', hout', hsending⟩
  · exact slotAfter_concat hready _
  · obtain rfl : b' = b := by simpa [hout] using hout'.symm
    rw [slotAfter_concat hsending, Slot.next, if_pos rfl]

theorem State.PortInv.sendAttempt {b : Byte} (h : s.PortInv) (hsend : s.sending = true)
    (hio : s.io = .send) (hout : s.out = some b) : (sendAttempt b s).PortInv := by
  have hslot : slotAfter (s.afterSend b).trace = some (Slot.afterAnswer b s.sendAnswer) :=
    h.slotAfter_send hsend hio hout _
  cases ha : s.sendAnswer with
  | wouldBlock =>
    rw [sendAttempt_wouldBlock b ha]
    rw [ha] at hslot
    exact {
      bench := h.bench
      atRest := fun hrest => absurd hsend (Bool.eq_false_iff.1 hrest)
      atSend := fun _ _ => .inr ⟨b, hout, hslot⟩
      atDrain := fun _ hrecv => nomatch hio.symm.trans hrecv }
  | ok =>
    rw [sendAttempt_ok b ha]
    rw [ha] at hslot
    exact portInv_of_draining h.bench hslot hsend rfl
  | err e =>
    rw [sendAttempt_err b ha]
    rw [ha] at hslot
    exact portInv_of_ready h.bench hslot nofun

/-! ### The receive attempt (R54, R101) -/

/-- What is finished with any answer but `WouldBlock` leaves nothing outstanding. -/
theorem Slot.next_recv_of_ne_wouldBlock {a : RecvAnswer} (ha : a ≠ .wouldBlock) :
    Slot.draining.next (.recv a) = some .ready := by
  cases a with
  | wouldBlock => exact absurd rfl ha
  | value v | err e => rfl

/-- An advance that stays in a sending phase goes on to the next byte's send (R102, R133, R137). -/
theorem advance_io (hsend : (advance s).sending = true) : (advance s).io = .send := by
  revert hsend
  cases hp : s.phase with
  | idle | wait => simp [advance, hp, State.sending]
  | enc =>
    rw [advance_enc hp]
    rcases encAdvance_cases s with ⟨-, h⟩ | ⟨-, -, h⟩ | ⟨-, -, -, h⟩ | ⟨-, -, -, h⟩ <;>
      simp [h, State.sending]
  | preflush =>
    rw [advance_preflush hp]
    rcases preAdvance_cases s with ⟨-, h⟩ | ⟨-, h⟩ <;> simp [h, State.sending]
  | flush =>
    rw [advance_flush hp]
    rcases flushAdvance_cases s with ⟨-, h⟩ | ⟨-, h⟩ <;> simp [h, State.sending]

theorem State.PortInv.recvAttempt (h : s.PortInv) (hsend : s.sending = true) (hio : s.io = .recv) :
    (recvAttempt s).PortInv := by
  have hslot : slotAfter s.afterRecv.trace = Slot.draining.next (.recv s.recvAnswer) :=
    slotAfter_concat (h.atDrain hsend hio) _
  by_cases ha : s.recvAnswer = .wouldBlock
  · rw [recvAttempt_wouldBlock ha]
    rw [ha] at hslot
    exact portInv_of_draining h.bench hslot hsend hio
  · obtain ⟨-, -, -, -, htrace, hbench⟩ := advance_ports s.afterRecv
    rw [Slot.next_recv_of_ne_wouldBlock ha, ← htrace] at hslot
    rw [recvAttempt_other ha]
    exact portInv_of_ready (hbench.trans h.bench) hslot advance_io

/-- Settles O30: each of the six things a step can do keeps the order. -/
theorem portOrderKept : Obligations.PortOrderKept := by
  unfold Obligations.PortOrderKept
  intro s t h hstep
  rcases step_cases h.bench hstep with ⟨-, -, rfl⟩ | ⟨w, ws, hp, -, -, rfl⟩ |
    ⟨w, ws, r, g, b, hp, -, -, rfl⟩ | ⟨w, ws, hp, -, -, rfl⟩ | ⟨b, hsend, hio, hout, rfl⟩ |
    ⟨hsend, hio, rfl⟩
  · exact h
  · refine portInv_of_ready (step_symPort h.bench hstep) ?_ (startWrite_io _)
    rw [startWrite_trace]
    exact h.slotAfter_accept (.inl hp) .start
  · exact portInv_of_ready h.bench (h.slotAfter_accept (.inr hp) _) fun _ => rfl
  · exact portInv_of_ready h.bench (h.slotAfter_accept (.inr hp) _) fun _ => rfl
  · exact h.sendAttempt hsend hio hout
  · exact h.recvAttempt hsend hio

end Sys2Proof.Machine
end

section
/-! PROOFS of what the bytes of channel values are on a line that shifts the most significant bit first
(R56, R57, R77, R106). -/

namespace Sys2Proof.Machine

/-- The two symbols of a transport byte, one after the other (R79). -/
theorem wireBits_transportByte (p q : Bool) :
    wireBits (transportByte p q) = symbolWire p ++ symbolWire q := by
  cases p <;> cases q <;> decide

/-- The four transport bytes of a channel value, by bit pairs from bit 7 down (R80). -/
theorem encodeChannel_eq_transportBytes (v : Byte) :
    encodeChannel v =
      [transportByte (v.getLsbD 7) (v.getLsbD 6), transportByte (v.getLsbD 5) (v.getLsbD 4),
       transportByte (v.getLsbD 3) (v.getLsbD 2), transportByte (v.getLsbD 1) (v.getLsbD 0)] := by
  obtain ⟨hhigh0, hlow0⟩ := accBytes_first v
  obtain ⟨hhigh1, hlow1⟩ := accBytes_second v
  rw [encodeChannel, hhigh0, hlow0, hhigh1, hlow1]

theorem wireStream_encodeChannel (v : Byte) :
    wireStream (encodeChannel v) = (wireBits v).flatMap symbolWire := by
  rw [encodeChannel_eq_transportBytes]
  simp only [wireStream, List.flatMap_cons, List.flatMap_nil, wireBits_transportByte]
  simp only [wireBits, List.flatMap_cons, List.flatMap_nil, List.append_assoc]

theorem wireStream_append (bs cs : List Byte) :
    wireStream (bs ++ cs) = wireStream bs ++ wireStream cs := List.flatMap_append

/-- Settles O52, by induction on the list of channel values. -/
theorem wireSymbols : Obligations.WireSymbols := by
  unfold Obligations.WireSymbols
  intro vs
  induction vs with
  | nil => rfl
  | cons v vs ih =>
    simp only [List.flatMap_cons, List.flatMap_append, wireStream_append, wireStream_encodeChannel, ih]

end Sys2Proof.Machine
end

section
/-! PROOFS that the decoder and the encoder of the three formats agree (R71 to R75, R77, R79, R81). -/

namespace Sys2Proof

/-! ### The token decoder, form by form (R75) -/

section
variable {w : Token}

theorem decodeToken_start (hop : tokenOp w = 0x01) (hp : tokenPayload w = 0) :
    decodeToken w = .ok .start := by
  rw [decodeToken, if_pos hop, if_pos hp]

theorem decodeToken_color (hop : tokenOp w = 0x02) :
    decodeToken w = .ok (.color (tokenRed w) (tokenGreen w) (tokenBlue w)) := by
  rw [decodeToken, if_neg (by rw [hop]; decide), if_pos hop]

theorem decodeToken_finish (hop : tokenOp w = 0x03) (hp : tokenPayload w = 0) :
    decodeToken w = .ok .finish := by
  rw [decodeToken, if_neg (by rw [hop]; decide), if_neg (by rw [hop]; decide), if_pos hop, if_pos hp]

theorem decodeToken_reserved (hstart : ¬(tokenOp w = 0x01 ∧ tokenPayload w = 0))
    (hcolor : tokenOp w ≠ 0x02) (hfinish : ¬(tokenOp w = 0x03 ∧ tokenPayload w = 0)) :
    ∃ why, decodeToken w = .error why := by
  unfold decodeToken
  by_cases h1 : tokenOp w = 0x01
  · rw [if_pos h1, if_neg fun hp => hstart ⟨h1, hp⟩]
    exact ⟨_, rfl⟩
  rw [if_neg h1, if_neg hcolor]
  by_cases h3 : tokenOp w = 0x03
  · rw [if_pos h3, if_neg fun hp => hfinish ⟨h3, hp⟩]
    exact ⟨_, rfl⟩
  · rw [if_neg h3]
    exact ⟨_, rfl⟩

end

/-- Settles O3, one rule per form of a word. -/
theorem tokenDecoderTotal : Obligations.TokenDecoderTotal := by
  unfold Obligations.TokenDecoderTotal
  intro w
  exact ⟨decodeToken_start, decodeToken_color, decodeToken_finish, decodeToken_reserved⟩

/-! ### Decoding and encoding -/

theorem decodeToken_tokenWord_color (r g b : Byte) :
    decodeToken (tokenWord 0x02 (colourPayload r g b)) = .ok (.color r g b) := by
  rw [decodeToken_color (tokenOp_tokenWord ..), tokenRed_tokenWord, tokenGreen_tokenWord,
    tokenBlue_tokenWord]

theorem decode_encode (i : Instr) : decode (encode i) = .ok i := by
  cases i with
  | color r g b => exact decodeToken_tokenWord_color r g b
  | start | finish | sym0 | sym1 | tb00 | tb01 | tb10 | tb11 | flush => rfl

/-- A token word that decodes is put together again from its fields. -/
theorem encode_of_decodeToken {w : Token} {i : Instr} (h : decodeToken w = .ok i) : encode i = .token w := by
  have hsplit := tokenWord_split w
  by_cases hstart : tokenOp w = 0x01 ∧ tokenPayload w = 0
  · obtain ⟨hop, hp⟩ := hstart
    cases (decodeToken_start hop hp).symm.trans h
    rw [encode, ← hop, ← hp, hsplit]
  by_cases hcolor : tokenOp w = 0x02
  · cases (decodeToken_color hcolor).symm.trans h
    rw [encode, colourPayload_split, ← hcolor, hsplit]
  by_cases hfinish : tokenOp w = 0x03 ∧ tokenPayload w = 0
  · obtain ⟨hop, hp⟩ := hfinish
    cases (decodeToken_finish hop hp).symm.trans h
    rw [encode, ← hop, ← hp, hsplit]
  · obtain ⟨why, hwhy⟩ := decodeToken_reserved hstart hcolor hfinish
    cases hwhy.symm.trans h

/-- The bytes that decode are the rows of R79 and R81. -/
theorem mem_byteRows_of_decodeByte {b : Byte} {i : Instr} (h : decodeByte b = .ok i) :
    (i, b) ∈ Machine.byteRows := by
  unfold decodeByte at h
  split_ifs at h <;> cases h <;> simp [Machine.byteRows, *]

theorem encode_of_mem_byteRows : ∀ row ∈ Machine.byteRows, encode row.1 = .tbyte row.2 := by decide

theorem encode_of_decodeSymbol {n : Nibble} {i : Instr} (h : decodeSymbol n = .ok i) :
    encode i = .symbol n := by
  unfold decodeSymbol at h
  split_ifs at h with h0 h1 <;> cases h
  · rw [encode, h0]
  · rw [encode, h1]

theorem encode_of_decode {w : TableWord} {i : Instr} (h : decode w = .ok i) : encode i = w := by
  cases w with
  | token w => exact encode_of_decodeToken h
  | tbyte b => exact encode_of_mem_byteRows (i, b) (mem_byteRows_of_decodeByte h)
  | symbol n => exact encode_of_decodeSymbol h

/-- Settles O2, by the rows one way and by the formats the other. -/
theorem decodeEncodeAgree : Obligations.DecodeEncodeAgree := by
  unfold Obligations.DecodeEncodeAgree
  exact ⟨decode_encode, fun _ _ => encode_of_decode⟩

/-- Settles O1, row by row: every word is a literal. -/
theorem tableWordsDecode : Obligations.TableWordsDecode := by
  unfold Obligations.TableWordsDecode
  exact ⟨rfl, rfl, rfl, rfl, rfl, rfl, rfl, rfl, rfl, rfl, rfl, rfl, rfl⟩

end Sys2Proof
end

section
/-! PROOFS of the bytes of channel values: what they are (R80), how they decode (R83), and that the block
offers no others but the flush byte (R82). -/

namespace Sys2Proof.Machine

/-! ### The bytes of a channel value (R80) -/

/-- Settles O4: the accumulator halves by definition, the bit pairs group by group. -/
theorem channelBytes : Obligations.ChannelBytes := by
  unfold Obligations.ChannelBytes
  intro v
  exact ⟨rfl, encodeChannel_eq_transportBytes v, rfl⟩

theorem eq_transportByte_of_mem_encodeChannel {v b : Byte} (h : b ∈ encodeChannel v) :
    ∃ p q, b = transportByte p q := by
  rw [encodeChannel_eq_transportBytes] at h
  simp only [List.mem_cons, List.not_mem_nil, or_false] at h
  rcases h with h | h | h | h <;> exact ⟨_, _, h⟩

/-! ### Decoding them (R83) -/

theorem transportByte_getLsbD_six (p q : Bool) : (transportByte p q).getLsbD 6 = p := by
  cases p <;> cases q <;> decide

theorem transportByte_getLsbD_two (p q : Bool) : (transportByte p q).getLsbD 2 = q := by
  cases p <;> cases q <;> decide

theorem byteBits_transportByte (p q : Bool) : byteBits (transportByte p q) = some (p, q) := by
  cases p <;> cases q <;> decide

/-- A channel value is its eight bits. -/
theorem ofBits_split (v : Byte) :
    ((ofBits (v.getLsbD 7) (v.getLsbD 6) ++ ofBits (v.getLsbD 5) (v.getLsbD 4)) ++
      ofBits (v.getLsbD 3) (v.getLsbD 2)) ++ ofBits (v.getLsbD 1) (v.getLsbD 0) = v := by
  unfold ofBits
  ext i hi
  simp only [BitVec.getElem_append]
  interval_cases i <;> simp

/-- The first four bytes give a channel value, whatever follows. -/
theorem decodeStream_encodeChannel_append (v : Byte) (ts : List Byte) :
    decodeStream (encodeChannel v ++ ts) = (decodeStream ts).map (v :: ·) := by
  have hsplit := ofBits_split v
  rw [encodeChannel_eq_transportBytes]
  simp only [List.cons_append, List.nil_append, decodeStream, decodeChannel, byteBits_transportByte]
  rw [hsplit]
  cases decodeStream ts <;> rfl

theorem encodeChannel_injective : Function.Injective encodeChannel := by
  intro v w h
  have hdecode := decodeStream_encodeChannel_append v []
  rw [h, decodeStream_encodeChannel_append w []] at hdecode
  simpa [decodeStream] using hdecode.symm

/-- Settles O5: each byte shows its bit pair, and what decodes is injective. -/
theorem channelRoundTrip : Obligations.ChannelRoundTrip := by
  unfold Obligations.ChannelRoundTrip
  refine ⟨rfl, rfl, fun v t0 t1 t2 t3 h => ?_, fun v w h => encodeChannel_injective h⟩
  rw [encodeChannel_eq_transportBytes] at h
  cases h
  simp only [transportByte_getLsbD_six, transportByte_getLsbD_two, and_self]

/-- Settles O6, by induction on the list of channel values. -/
theorem streamRoundTrip : Obligations.StreamRoundTrip := by
  unfold Obligations.StreamRoundTrip
  intro vs
  induction vs with
  | nil => rfl
  | cons v vs ih => rw [List.flatMap_cons, decodeStream_encodeChannel_append, ih, Option.map_some]

/-! ### The output alphabet (R82) -/

theorem inAlphabet_transportByte (p q : Bool) : inAlphabet (transportByte p q) = true := by
  cases p <;> cases q <;> decide

theorem transportByte_getLsbD_seven (p q : Bool) : (transportByte p q).getLsbD 7 = true := by
  cases p <;> cases q <;> decide

theorem transportByte_ne_flushByte (p q : Bool) : transportByte p q ≠ flushByte := by
  cases p <;> cases q <;> decide

/-- Either half of a group's accumulator is one of the channel value's bytes. -/
theorem accHalf_mem_encodeChannel (v : Byte) (half bsel : BitVec 1) :
    (if bsel = 0 then accHigh (buildAcc v half) else accLow (buildAcc v half)) ∈ encodeChannel v := by
  rcases bit_eq_zero_or_one half with rfl | rfl <;> split <;> simp [encodeChannel]

/-- Every byte the block has to send is in the alphabet: a flush byte in a flush run, and in ENC, by the
invariant, a byte of the selected channel. -/
theorem State.Inv.inAlphabet_out {s : State} {b : Byte} (h : s.Inv) (hout : s.out = some b) :
    inAlphabet b = true := by
  cases hp : s.phase with
  | idle | wait => simp [State.out, hp] at hout
  | preflush => cases (out_flushing (.inl hp)).symm.trans hout; rfl
  | flush => cases (out_flushing (.inr hp)).symm.trans hout; rfl
  | enc =>
    have hmem := accHalf_mem_encodeChannel s.chan s.half s.bsel
    rw [← h.acc hp, Option.some.inj ((out_enc hp).symm.trans hout)] at hmem
    obtain ⟨p, q, rfl⟩ := eq_transportByte_of_mem_encodeChannel hmem
    exact inAlphabet_transportByte p q

/-- A record that keeps the alphabet keeps it with one more event whose byte, if any, is in it. -/
theorem alphabetKept_concat {evs : List Event} {e : Event} (h : alphabetKept evs)
    (he : ∀ b, e.attempted = some b → inAlphabet b = true) : alphabetKept (evs ++ [e]) := by
  unfold alphabetKept at h ⊢
  intro b hb
  rw [List.filterMap_append, List.mem_append] at hb
  rcases hb with hb | hb
  · exact h b hb
  · exact he b (by simpa using hb)

theorem alphabetKept_step {s t : State} (hinv : s.Inv) (h : alphabetKept s.trace)
    (hstep : step s = .next t) : alphabetKept t.trace := by
  rcases step_cases hinv.bench hstep with ⟨-, -, rfl⟩ | ⟨w, ws, -, -, -, rfl⟩ |
    ⟨w, ws, r, g, b, -, -, -, rfl⟩ | ⟨w, ws, -, -, -, rfl⟩ | ⟨b, -, -, hout, rfl⟩ | ⟨-, -, rfl⟩
  · exact h
  · rw [startWrite_trace]
    exact alphabetKept_concat h nofun
  · exact alphabetKept_concat h nofun
  · exact alphabetKept_concat h nofun
  · obtain ⟨-, htrace, -⟩ := sendAttempt_ports b s
    rw [htrace]
    refine alphabetKept_concat h fun c hc => ?_
    cases hc
    exact hinv.inAlphabet_out hout
  · obtain ⟨-, htrace, -⟩ := recvAttempt_ports s
    rw [htrace]
    exact alphabetKept_concat h nofun

/-- Settles O32: only a send attempt records a byte, and the invariant says which. -/
theorem outputAlphabet : Obligations.OutputAlphabet := by
  unfold Obligations.OutputAlphabet
  refine ⟨fun s t => alphabetKept_step, fun v b hb => ?_⟩
  obtain ⟨p, q, rfl⟩ := eq_transportByte_of_mem_encodeChannel hb
  exact ⟨transportByte_ne_flushByte p q, transportByte_getLsbD_seven p q⟩

end Sys2Proof.Machine
end

section
/-! PROOFS of what the assembler makes of source lines (R84, R85). -/

namespace Sys2Proof.Machine

/-! ### Operands in range and out of range -/

theorem colourInRange_iff (c : Nat × Nat × Nat) :
    colourInRange c = true ↔ c.1 < 256 ∧ c.2.1 < 256 ∧ c.2.2 < 256 := by
  simp [colourInRange, operandInRange, and_assoc]

theorem not_colourInRange {c : Nat × Nat × Nat} (h : 256 ≤ c.1 ∨ 256 ≤ c.2.1 ∨ 256 ≤ c.2.2) :
    ¬colourInRange c = true := by
  rw [colourInRange_iff]; omega

theorem assembleLine_outOfRange {l : SourceLine} (h : ¬l.wellFormed = true) :
    assembleLine l = .error .operandOutOfRange := if_neg h

theorem assembleLine_color {r g b : Nat} (h : colourInRange (r, g, b) = true) :
    assembleLine (.color r g b) =
      .ok [.color (BitVec.ofNat 8 r) (BitVec.ofNat 8 g) (BitVec.ofNat 8 b)] := if_pos h

theorem assembleLine_frame {cs : List (Nat × Nat × Nat)} (h : ∀ c ∈ cs, colourInRange c = true) :
    assembleLine (.frame cs) = .ok (frameInstrs (cs.map colourOf)) :=
  if_pos (List.all_eq_true.2 h)

/-! ### The word of a COLOR line (R72, R84) -/

theorem tokenWord_color_eq_ofNat {r g b : Nat} (hr : r < 256) (hg : g < 256) (hb : b < 256) :
    tokenWord 0x02 (colourPayload (BitVec.ofNat 8 r) (BitVec.ofNat 8 g) (BitVec.ofNat 8 b)) =
      BitVec.ofNat 32 (0x02000000 ||| r <<< 16 ||| g <<< 8 ||| b) := by
  apply BitVec.eq_of_toNat_eq
  simp (disch := omega) [tokenWord, colourPayload, Nat.mod_eq_of_lt, Nat.or_assoc]

/-! ### FRAME and its expansion (R70, R85) -/

/-- COLOR tokens and then END are the rest of a write. -/
theorem writeTail_colours (cs : List Colour) :
    writeTail (cs.map (fun c => .color c.1 c.2.1 c.2.2) ++ [.finish]) = true := by
  induction cs with
  | nil => rfl
  | cons c cs ih => exact ih

theorem isWrite_frameInstrs (cs : List Colour) : isWrite (frameInstrs cs) = true :=
  writeTail_colours cs

theorem assembleLines_cons {l : SourceLine} {ls : List SourceLine} {is js : List Instr}
    (hl : assembleLine l = .ok is) (hls : assembleLines ls = .ok js) :
    assembleLines (l :: ls) = .ok (is ++ js) := by
  simp only [assembleLines, hl, hls]

/-- COLOR lines and then END, line by line. -/
theorem assembleLines_colours {cs : List (Nat × Nat × Nat)} (h : ∀ c ∈ cs, colourInRange c = true) :
    assembleLines (cs.map (fun c => .color c.1 c.2.1 c.2.2) ++ [.finish]) =
      .ok ((cs.map colourOf).map (fun c => .color c.1 c.2.1 c.2.2) ++ [.finish]) := by
  induction cs with
  | nil => rfl
  | cons c cs ih =>
    obtain ⟨hc, hcs⟩ := List.forall_mem_cons.1 h
    exact assembleLines_cons (is := [.color _ _ _]) (assembleLine_color hc) (ih hcs)

/-- What FRAME stands for, line by line (R85). -/
theorem assembleLines_expansion {cs : List (Nat × Nat × Nat)} (h : ∀ c ∈ cs, colourInRange c = true) :
    assembleLines (.start :: cs.map (fun c => .color c.1 c.2.1 c.2.2) ++ [.finish]) =
      .ok (frameInstrs (cs.map colourOf)) :=
  assembleLines_cons (is := [.start]) rfl (assembleLines_colours h)

/-- Settles O7: the word of a COLOR line, the refusals, and a FRAME line by induction on its colours. -/
theorem assembledTokens : Obligations.AssembledTokens := by
  unfold Obligations.AssembledTokens
  refine ⟨fun r g b hr hg hb => ?_, fun r g b h => ?_, fun cs h => ?_, fun cs h => ?_⟩
  · have hrange := (colourInRange_iff (r, g, b)).2 ⟨hr, hg, hb⟩
    exact ⟨_, assembleLine_color hrange, congrArg TableWord.token (tokenWord_color_eq_ofNat hr hg hb)⟩
  · exact assembleLine_outOfRange (not_colourInRange h)
  · obtain ⟨c, hmem, hc⟩ := h
    exact assembleLine_outOfRange fun hall => not_colourInRange hc (List.all_eq_true.1 hall c hmem)
  · have hrange : ∀ c ∈ cs, colourInRange c = true := fun c hc => (colourInRange_iff c).2 (h c hc)
    exact ⟨_, assembleLine_frame hrange, isWrite_frameInstrs _, assembleLines_expansion hrange⟩

end Sys2Proof.Machine
end

section
/-! PROOFS of the send attempt, the drain and ENC-ADVANCE as steps (R100, R101, R102). -/

namespace Sys2Proof.Machine

variable {s : State}

/-- Settles O19, answer by answer. -/
theorem sendAttemptStep : Obligations.SendAttemptStep := by
  unfold Obligations.SendAttemptStep
  intro s b hs hio hout
  rw [step_send hs hio hout]
  exact ⟨fun ha => congrArg _ (sendAttempt_wouldBlock b ha), fun ha => congrArg _ (sendAttempt_ok b ha),
    fun e ha => congrArg _ (sendAttempt_err b ha)⟩

/-- A drain answered otherwise than `WouldBlock` advances the block (R101). -/
theorem step_recv_advance (hs : s.symPort = none) (hsend : s.sending = true) (hio : s.io = .recv)
    (ha : s.recvAnswer ≠ .wouldBlock) : step s = .next (advance s.afterRecv) := by
  rw [step_recv hs hio hsend, recvAttempt_other ha]

/-- Settles O21: an advance reads registers only, and the attempt before it changes none. -/
theorem drainStep : Obligations.DrainStep := by
  unfold Obligations.DrainStep
  intro s hs hsend hio
  constructor
  · intro ha
    rw [step_recv hs hio hsend, recvAttempt_wouldBlock ha]
  · intro ha
    obtain ⟨htoken, hsends, hrecvs, -, htrace, -⟩ := advance_ports s.afterRecv
    exact ⟨_, step_recv_advance hs hsend hio ha, (sameBlock_afterRecv s).advance, htrace, hrecvs,
      hsends, htoken⟩

/-! ### ENC-ADVANCE, position by position (R102) -/

theorem encAdvance_firstByte (hb : s.bsel = 0) : encAdvance s = { s with bsel := 1, io := .send } := by
  rw [encAdvance, if_pos hb]

theorem encAdvance_firstGroup (hb : s.bsel = 1) (hh : s.half = 0) :
    encAdvance s = loadGroup s.chan 1 s := by
  rw [encAdvance, if_neg (by simp [hb]), if_pos hh]

theorem encAdvance_channel (hb : s.bsel = 1) (hh : s.half = 1) {i : BitVec 2} (hc : s.cidx = i)
    (hi : i.toNat < 2) : encAdvance s = loadChannel (i + 1) s.rgb s := by
  subst hc
  rw [encAdvance, if_neg (by simp [hb]), if_neg (by simp [hh]), if_pos hi]

theorem encAdvance_lastChannel (hb : s.bsel = 1) (hh : s.half = 1) (hc : s.cidx = 2) :
    encAdvance s = { s with phase := .wait } := by
  rw [encAdvance, if_neg (by simp [hb]), if_neg (by simp [hh]), if_neg (by simp [hc])]

/-- Settles O22, position by position. -/
theorem encAdvanceStep : Obligations.EncAdvanceStep := by
  unfold Obligations.EncAdvanceStep
  intro s hs hp hio ha
  have hsend : s.sending = true := by simp only [State.sending, hp]
  have hstep : step s = .next (encAdvance s.afterRecv) :=
    (step_recv_advance hs hsend hio ha).trans (congrArg _ (advance_enc hp))
  rw [hstep]
  exact ⟨fun hb => congrArg _ (encAdvance_firstByte hb),
    fun hb hh => congrArg _ (encAdvance_firstGroup hb hh),
    fun hb hh hc => congrArg _ (encAdvance_channel (s := s.afterRecv) hb hh hc (by decide)),
    fun hb hh hc => congrArg _ (encAdvance_channel (s := s.afterRecv) hb hh hc (by decide)),
    fun hb hh hc => congrArg _ (encAdvance_lastChannel hb hh hc)⟩

end Sys2Proof.Machine
end

section
/-! PROOFS that what a drain returns is not read (R54, R101). -/

namespace Sys2Proof.Machine

theorem SendAnswer.mapErr_id (a : SendAnswer) : SendAnswer.mapErr id a = a := by
  cases a <;> rfl

theorem Status.mapErr_id (st : Status) : Status.mapErr id st = st := by
  cases st <;> rfl

/-- Replacing what drains return is a relabelling that leaves the errors of sends alone. -/
theorem blankDrains_eq_relabel (d : RecvAnswer) :
    State.blankDrains d = State.relabel id (RecvAnswer.blank d) := by
  have hsend : SendAnswer.mapErr id = id := funext SendAnswer.mapErr_id
  have hevent : Event.blank d = Event.relabel id (RecvAnswer.blank d) := by
    funext e
    cases e with
    | accept i | recv a => rfl
    | send b a => rw [Event.blank, Event.relabel, SendAnswer.mapErr_id]
  funext s
  simp only [State.blankDrains, State.relabel, hevent, hsend, Status.mapErr_id, List.map_id]

/-- Whether the drain is to be repeated can still be told. -/
theorem RecvAnswer.blank_eq_wouldBlock_iff {d : RecvAnswer} (hd : d ≠ .wouldBlock) (a : RecvAnswer) :
    RecvAnswer.blank d a = .wouldBlock ↔ a = .wouldBlock := by
  cases a <;> simp [RecvAnswer.blank, hd]

/-- Settles O39: the step commutes with relabellings, and replacing what drains return is one. -/
theorem drainedValueUnread : Obligations.DrainedValueUnread := by
  unfold Obligations.DrainedValueUnread
  intro d s hd hrecv
  have hsend : (s.blankDrains d).sendAnswer = SendAnswer.mapErr id s.sendAnswer :=
    (SendAnswer.mapErr_id _).symm
  rw [blankDrains_eq_relabel] at hsend ⊢
  exact step_relabel (RecvAnswer.blank_eq_wouldBlock_iff hd) hsend (recvAnswer_relabel id _ hrecv)

end Sys2Proof.Machine
end

section
/-! PROOFS that no branch of the encoder depends on a channel value: every operation of a sending phase takes
states at one position to states at one position (R35, R102). -/

namespace Sys2Proof.Machine

variable {s t : State}

theorem SamePosition.sending_eq (h : SamePosition s t) : t.sending = s.sending := by
  simp only [State.sending, h.phase]

theorem SamePosition.sendAnswer_eq (h : SamePosition s t) : t.sendAnswer = s.sendAnswer := by
  simp only [State.sendAnswer, h.sendScript, h.draws]

theorem SamePosition.recvAnswer_eq (h : SamePosition s t) : t.recvAnswer = s.recvAnswer := by
  simp only [State.recvAnswer, h.recvScript, h.draws]

/-! ### The advances (R102, R133, R137): both states take the same branch -/

theorem SamePosition.encAdvance (h : SamePosition s t) : SamePosition (encAdvance s) (encAdvance t) := by
  simp only [Machine.encAdvance, h.bsel, h.half, h.cidx]
  split_ifs
  · exact { h with cidx := rfl, half := rfl, bsel := rfl, io := rfl }
  · exact { h with half := rfl, bsel := rfl, io := rfl }
  · exact { h with cidx := rfl, half := rfl, bsel := rfl, io := rfl }
  · exact { h with cidx := rfl, half := rfl, bsel := rfl, phase := rfl }

theorem SamePosition.preAdvance (h : SamePosition s t) : SamePosition (preAdvance s) (preAdvance t) := by
  simp only [Machine.preAdvance, h.fcnt]
  split_ifs
  · exact { h with fcnt := rfl, phase := rfl }
  · exact { h with fcnt := rfl, io := rfl }

theorem SamePosition.flushAdvance (h : SamePosition s t) :
    SamePosition (flushAdvance s) (flushAdvance t) := by
  simp only [Machine.flushAdvance, h.fcnt]
  split_ifs
  · exact { h with fcnt := rfl, phase := rfl, status := rfl }
  · exact { h with fcnt := rfl, io := rfl }

theorem SamePosition.advance (h : SamePosition s t) : SamePosition (advance s) (advance t) := by
  cases hp : s.phase with
  | idle | wait => simpa only [Machine.advance, h.phase, hp] using h
  | enc => rw [advance_enc hp, advance_enc (h.phase.trans hp)]; exact h.encAdvance
  | preflush => rw [advance_preflush hp, advance_preflush (h.phase.trans hp)]; exact h.preAdvance
  | flush => rw [advance_flush hp, advance_flush (h.phase.trans hp)]; exact h.flushAdvance

/-! ### The attempts (R100, R101) -/

/-- The bytes attempted may differ. -/
theorem SamePosition.afterSend (h : SamePosition s t) (b b' : Byte) :
    SamePosition (s.afterSend b) (t.afterSend b') :=
  { h with
    sendScript := congrArg List.tail h.sendScript
    draws := by simp only [afterSend_draws, h.sendScript, h.draws] }

theorem SamePosition.afterRecv (h : SamePosition s t) : SamePosition s.afterRecv t.afterRecv :=
  { h with
    recvScript := congrArg List.tail h.recvScript
    draws := by simp only [afterRecv_draws, h.recvScript, h.draws] }

theorem SamePosition.sendAttempt (h : SamePosition s t) (b b' : Byte) :
    SamePosition (sendAttempt b s) (sendAttempt b' t) := by
  have hafter := h.afterSend b b'
  have ha := h.sendAnswer_eq
  rcases sendAttempt_cases b s with ⟨hs, heq⟩ | ⟨hs, heq⟩ | ⟨e, hs, heq⟩ <;> rw [heq]
  · rw [sendAttempt_wouldBlock b' (ha.trans hs)]; exact hafter
  · rw [sendAttempt_ok b' (ha.trans hs)]; exact { hafter with io := rfl }
  · rw [sendAttempt_err b' (ha.trans hs)]; exact { hafter with status := rfl, phase := rfl }

theorem SamePosition.recvAttempt (h : SamePosition s t) :
    SamePosition (recvAttempt s) (recvAttempt t) := by
  have ha := h.recvAnswer_eq
  by_cases hs : s.recvAnswer = .wouldBlock
  · rw [recvAttempt_wouldBlock hs, recvAttempt_wouldBlock (ha.trans hs)]; exact h.afterRecv
  · rw [recvAttempt_other hs, recvAttempt_other (ha ▸ hs)]; exact h.afterRecv.advance

/-- Settles O40: both states make the same kind of attempt, under the same answer. -/
theorem positionIndependentOfColour : Obligations.PositionIndependentOfColour := by
  unfold Obligations.PositionIndependentOfColour
  intro s t s' hs ht hsend h hstep
  have hsend' : t.sending = true := h.sending_eq.trans hsend
  cases hio : s.io with
  | send =>
    obtain ⟨b, hout⟩ := (sending_iff_out s).1 hsend
    obtain ⟨b', hout'⟩ := (sending_iff_out t).1 hsend'
    rw [step_send hs hio hout] at hstep
    cases hstep
    exact ⟨_, step_send ht (h.io.trans hio) hout', h.sendAttempt b b'⟩
  | recv =>
    rw [step_recv hs hio hsend] at hstep
    cases hstep
    exact ⟨_, step_recv ht (h.io.trans hio) hsend', h.recvAttempt⟩

end Sys2Proof.Machine
end

section
/-! PROOFS of the byte slots in a row (R104, R105): which slots a state leads to is a matter of its registers
alone, a run does those slots, and a latched colour leads to its 12 bytes. -/

namespace Sys2Proof.Machine

variable {s t u : State} {b : Byte} {bs cs : List Byte}

/-! ### The slots ahead of a state -/

/-- From the registers of `s`, the byte slots of `bs`, each of them done, lead to the registers of `t`. -/
inductive Slots : State → List Byte → State → Prop
  | nil (s : State) : Slots s [] s
  | cons {s t : State} {b : Byte} {bs : List Byte} (hio : s.io = .send) (hout : s.out = some b)
      (hrest : Slots (advance { s with io := .recv }) bs t) : Slots s (b :: bs) t

theorem Slots.append (h : Slots s bs u) (h' : Slots u cs t) : Slots s (bs ++ cs) t := by
  induction h with
  | nil => exact h'
  | cons hio hout _ ih => exact .cons hio hout (ih h')

/-! ### A run does the slots ahead (R55) -/

theorem andThen_of_done {x : Transfer} {next : List SendAnswer → List RecvAnswer → Transfer}
    (h : x.ending = .done) :
    x.andThen next =
      { next x.sends x.recvs with events := x.events ++ (next x.sends x.recvs).events } := by
  simp only [Transfer.andThen, h]

theorem andThen_of_ne_done {x : Transfer} {next : List SendAnswer → List RecvAnswer → Transfer}
    (h : x.ending ≠ .done) : x.andThen next = x := by
  rw [Transfer.andThen]
  split
  · contradiction
  · rfl
  · rfl

/-- What the ending of slots that lead to `t` says of the state reached: the registers of `t`, or the write
aborted (R174). -/
def EndsAt (t : State) : Ending → State → Prop
  | .done, t' => SameBlock t t'
  | .failed e, t' => t'.phase = .idle ∧ t'.status = .err e
  | .waiting, _ => False

theorem EndsAt.sameBlock {e : Ending} (h : EndsAt t e u) (he : e = .done) : SameBlock t u := by
  subst he; exact h

theorem EndsAt.aborted {e : Ending} {err : TransportErr} (h : EndsAt t e u) (he : e = .failed err) :
    u.phase = .idle ∧ u.status = .err err := by
  subst he; exact h

/-- Unless the answers run out, a run does the slots ahead, up to the first that fails. -/
theorem Slots.performs (h : Slots s bs t) {s' : State} (hsame : SameBlock s s')
    (hbench : s'.symPort = none)
    (hend : (byteSlots bs s'.sendScript s'.recvScript).ending ≠ .waiting) :
    ∃ k t', Performs s' k t' (byteSlots bs s'.sendScript s'.recvScript) ∧
      EndsAt t (byteSlots bs s'.sendScript s'.recvScript).ending t' := by
  induction h generalizing s' with
  | nil s => exact ⟨0, s', performs_refl hbench .done, hsame⟩
  | @cons s t b bs hio hout _ ih =>
    have hio' := hsame.io.trans hio
    have hout' := hsame.out_eq.trans hout
    rw [byteSlots] at hend ⊢
    cases hslot : (byteSlot b s'.sendScript s'.recvScript).ending with
    | waiting =>
      rw [andThen_of_ne_done (by simp [hslot])] at hend
      exact absurd hslot hend
    | failed e =>
      obtain ⟨k, t', hrun, hsame'⟩ := performs_byteSlot_failed hbench hio' hout' hslot
      rw [andThen_of_ne_done (by simp [hslot]), hslot]
      exact ⟨k, t', hrun, hsame'.phase, hsame'.status⟩
    | done =>
      obtain ⟨j, u, hfirst, hu⟩ := performs_byteSlot_done hbench hio' hout' hslot
      have hdrain : SameBlock { s with io := .recv } { s' with io := .recv } :=
        { hsame with io := rfl }
      rw [andThen_of_done hslot, ← hfirst.sendScript, ← hfirst.recvScript] at hend ⊢
      obtain ⟨k, t', hrest, ht'⟩ := ih (hdrain.advance.trans hu) hfirst.bench hend
      exact ⟨_, t', hfirst.trans hrest, ht'⟩

/-! ### The slots of a channel and of a colour (R102, R104, R105) -/

/-- A group's first byte is the high half of its accumulator, its second the low half (R56, R102). -/
theorem slots_group (hp : s.phase = .enc) (hio : s.io = .send) (hb : s.bsel = 0) :
    Slots s [accHigh s.acc, accLow s.acc] (encAdvance { s with bsel := 1, io := .recv }) := by
  have hfirst : advance { s with io := .recv } = { s with bsel := 1, io := .send } :=
    (advance_enc (s := { s with io := .recv }) hp).trans (encAdvance_firstByte hb)
  have hsecond : advance { s with bsel := 1, io := .recv } =
      encAdvance { s with bsel := 1, io := .recv } := advance_enc hp
  refine .cons hio (by rw [out_enc hp, if_pos hb]) ?_
  rw [hfirst]
  refine .cons rfl (out_enc hp) ?_
  rw [hsecond]
  exact .nil _

/-- The block at the drain of the last byte of the channel that `s` starts. -/
def State.atLastDrain (s : State) : State :=
  { loadGroup s.chan 1 s with bsel := 1, io := .recv }

/-- `EncodeChannel` (R104): a channel just loaded leads to its four bytes. -/
theorem slots_channel (hp : s.phase = .enc) (i : BitVec 2) :
    Slots (loadChannel i s.rgb s) (encodeChannel (channel s.rgb i))
      (encAdvance (loadChannel i s.rgb s).atLastDrain) := by
  have hfirst := slots_group (s := loadChannel i s.rgb s) hp rfl rfl
  rw [encAdvance_firstGroup rfl rfl] at hfirst
  exact hfirst.append (slots_group hp rfl rfl)

/-- After red and green the next channel of the same colour is loaded (R102). -/
theorem slots_channel_next (hp : s.phase = .enc) {i : BitVec 2} (hi : i.toNat < 2) :
    Slots (loadChannel i s.rgb s) (encodeChannel (channel s.rgb i)) (loadChannel (i + 1) s.rgb s) := by
  have h := slots_channel hp i
  rwa [encAdvance_channel rfl rfl rfl hi] at h

/-- After blue the block is back in WAIT (R102). -/
theorem slots_channel_blue (hp : s.phase = .enc) :
    Slots (loadChannel 2 s.rgb s) (encodeChannel (channel s.rgb 2))
      { (loadChannel 2 s.rgb s).atLastDrain with phase := .wait } := by
  have h := slots_channel hp 2
  rwa [encAdvance_lastChannel rfl rfl rfl] at h

/-- `EncodeColor` (R105): a latched colour leads to its 12 bytes and back to WAIT. -/
theorem slots_latchColour (c : Colour) (s : State) :
    ∃ t, Slots (latchColour c.1 c.2.1 c.2.2 s) (encodeColour c) t ∧
      t.phase = .wait ∧ t.status = s.status := by
  let latched : State := { s with rgb := colourPayload c.1 c.2.1 c.2.2, phase := .enc }
  have hred := slots_channel_next (s := latched) (i := 0) rfl (by decide)
  have hgreen := slots_channel_next (s := latched) (i := 1) rfl (by decide)
  have hblue := slots_channel_blue (s := latched) rfl
  have hall := hred.append (hgreen.append hblue)
  rw [channel_red, channel_green, channel_blue] at hall
  exact ⟨_, hall, rfl, rfl⟩

/-! ### A colour taken from the port (R105, R134) -/

/-- COLOR in WAIT is taken off the port and latched (R131, R134). -/
theorem step_color (hs : s.symPort = none) (hp : s.phase = .wait) {c : Colour} {ws : List Token}
    (ht : s.tokenPort = tokenWords [.color c.1 c.2.1 c.2.2] ++ ws) :
    step s = .next (latchColour c.1 c.2.1 c.2.2
      (State.accept (.color c.1 c.2.1 c.2.2) { s with tokenPort := ws })) := by
  have hport : s.tokenPort =
      tokenWord 0x02 (colourPayload c.1 c.2.1 c.2.2) :: ws := ht
  rw [step_token hs (by simp [State.tokenReady, hp]) hport (decodeToken_tokenWord_color ..)]
  simp only [exec, execColor, hp]

/-- Settles O42: the COLOR is taken and latched, and a run does the slots ahead of a latched colour. -/
theorem colourEncoded : Obligations.ColourEncoded := by
  unfold Obligations.ColourEncoded
  rintro s c ws x hs hp ht rfl
  have hcolor := step_color hs hp ht
  obtain ⟨v, hslots, hphase, hstatus⟩ :=
    slots_latchColour c (State.accept (.color c.1 c.2.1 c.2.2) { s with tokenPort := ws })
  have hruns := hslots.performs (.refl _) hs
  constructor
  · intro hdone
    obtain ⟨k, t, h, hend⟩ := hruns (hdone.trans_ne nofun)
    have hsame := hend.sameBlock hdone
    exact ⟨k + 1, t, reaches_cons hcolor h.reaches, hsame.phase.trans hphase,
      hsame.status.trans hstatus, h.tokenPort, h.trace.trans (List.append_assoc ..), h.sendScript,
      h.recvScript⟩
  · intro e hfailed
    obtain ⟨k, t, h, hend⟩ := hruns (hfailed.trans_ne nofun)
    obtain ⟨hidle, herr⟩ := hend.aborted hfailed
    exact ⟨k + 1, t, reaches_cons hcolor h.reaches, hidle, herr, h.tokenPort,
      h.trace.trans (List.append_assoc ..), h.sendScript, h.recvScript⟩

end Sys2Proof.Machine
end

section
/-! PROOFS of what a host token does where it is taken and where it is refused (R74, R130 to R132, R134,
R136, R139), and of how the two flush runs count their slots (R133, R137, R138). -/

namespace Sys2Proof.Machine

variable {s : State}

/-! ### A token by the phase it comes in (R132, R134, R136, R139) -/

theorem exec_start_idle (hp : s.phase = .idle) :
    exec .start s = .next (startWrite Config.idleHigh (s.accept .start)) := by
  simp only [exec, execStart, hp]

theorem exec_start_wait (hp : s.phase = .wait) : exec .start s = .refused .startInWait := by
  simp only [exec, execStart, hp]

theorem exec_color_wait (hp : s.phase = .wait) (r g b : Byte) :
    exec (.color r g b) s = .next (latchColour r g b (s.accept (.color r g b))) := by
  simp only [exec, execColor, hp]

theorem exec_color_idle (hp : s.phase = .idle) (r g b : Byte) :
    exec (.color r g b) s = .refused .colorInIdle := by
  simp only [exec, execColor, hp]

theorem exec_finish_wait (hp : s.phase = .wait) :
    exec .finish s = .next (startFlush .flush (s.accept .finish)) := by
  simp only [exec, execFinish, hp]

theorem exec_finish_idle (hp : s.phase = .idle) : exec .finish s = .refused .endInIdle := by
  simp only [exec, execFinish, hp]

theorem startWrite_true (s : State) :
    startWrite true s = { s with status := .busy, phase := .preflush, fcnt := 0, io := .send } := rfl

theorem startWrite_false (s : State) :
    startWrite false s = { s with status := .busy, phase := .wait } := rfl

/-- Settles O8, for either value of the strap. -/
theorem startBeginsWrite : Obligations.StartBeginsWrite := by
  unfold Obligations.StartBeginsWrite
  refine fun s => ⟨fun hp => ?_, exec_start_wait⟩
  rw [exec_start_idle hp]
  cases Config.idleHigh with
  | true => exact congrArg _ (startWrite_true _)
  | false => exact congrArg _ (startWrite_false _)

/-- Settles O9: both effects by definition, and START in IDLE has the strapped one. -/
theorem startByIdleLevel : Obligations.StartByIdleLevel := by
  unfold Obligations.StartByIdleLevel
  exact fun s => ⟨startWrite_true s, startWrite_false s, exec_start_idle⟩

/-- Settles O10: the red channel of the colour latched is `r`. -/
theorem colorLatched : Obligations.ColorLatched := by
  unfold Obligations.ColorLatched
  refine fun s r g b => ⟨fun hp => ?_, fun hp => exec_color_idle hp r g b⟩
  rw [exec_color_wait hp, latchColour, loadChannel, channel_red]
  rfl

/-- Settles O11: END in WAIT and in IDLE. -/
theorem endStartsTrailer : Obligations.EndStartsTrailer := by
  unfold Obligations.EndStartsTrailer
  exact fun s => ⟨exec_finish_wait, exec_finish_idle⟩

/-! ### The token on the port (R74, R130, R139) -/

theorem tokenReady_idle (hp : s.phase = .idle) : s.tokenReady = true := by
  simp [State.tokenReady, hp]

theorem tokenReady_wait (hp : s.phase = .wait) : s.tokenReady = true := by
  simp [State.tokenReady, hp]

/-- The reserved words of R74 do not decode. -/
theorem decodeToken_of_reservedToken {w : Token} (h : reservedToken w) :
    ∃ why, decodeToken w = .error why := by
  rcases h with hop | hop | ⟨hop, hp⟩ | ⟨hop, hp⟩
  · exact decodeToken_reserved (by simp [hop]) (by simp [hop]) (by simp [hop])
  · refine decodeToken_reserved ?_ ?_ ?_
    · rintro ⟨h1, -⟩; simp [h1] at hop
    · intro h2; simp [h2] at hop
    · rintro ⟨h3, -⟩; simp [h3] at hop
  · exact decodeToken_reserved (fun h => hp h.2) (by simp [hop]) (by simp [hop])
  · exact decodeToken_reserved (by simp [hop]) (by simp [hop]) (fun h => hp h.2)

/-- Settles O13: each word decodes to a token its phase refuses, or does not decode. -/
theorem tokensRefused : Obligations.TokensRefused := by
  unfold Obligations.TokensRefused
  intro s w ws hs ht
  refine ⟨?_, fun hp hop => ?_, ?_, fun hr hw => ?_⟩
  · rintro hp rfl
    rw [step_token hs (tokenReady_wait hp) ht (i := .start) rfl]
    exact exec_start_wait hp
  · rw [step_token hs (tokenReady_idle hp) ht (decodeToken_color hop)]
    exact exec_color_idle (s := { s with tokenPort := ws }) hp _ _ _
  · rintro hp rfl
    rw [step_token hs (tokenReady_idle hp) ht (i := .finish) rfl]
    exact exec_finish_idle hp
  · obtain ⟨why, hwhy⟩ := decodeToken_of_reservedToken hw
    exact ⟨why, step_reserved hs hr ht hwhy⟩

/-- A symbol on the bench port runs, and the port is empty (log 5). -/
theorem step_symbol {n : Nibble} {i : Instr} (hs : s.symPort = some n) (hd : decodeSymbol n = .ok i) :
    step s = exec i { s with symPort := none } := by
  simp only [step, fetch, hs, fetchSymbol, hd]

/-- Settles O28, port by port. -/
theorem stepRunsDecodedInstruction : Obligations.StepRunsDecodedInstruction := by
  unfold Obligations.StepRunsDecodedInstruction
  intro s i
  refine ⟨fun w ws => step_token, fun b hs hio hout hd => ?_, fun n => step_symbol⟩
  rw [step_send hs hio hout, exec_of_decodeByte hd hio hout]

/-! ### The slots of a flush run (R133, R137, R138) -/

theorem preAdvance_last (hf : s.fcnt = 19) : preAdvance s = { s with fcnt := 20, phase := .wait } := by
  rw [preAdvance, if_pos (by rw [hf]; rfl), hf]
  rfl

theorem preAdvance_next (hf : s.fcnt.toNat < 19) :
    preAdvance s = { s with fcnt := s.fcnt + 1, io := .send } := by
  rw [preAdvance, if_neg (by rw [Config.flushLen]; omega)]

theorem flushAdvance_last (hf : s.fcnt = 19) :
    flushAdvance s = { s with fcnt := 20, phase := .idle, status := .ok } := by
  rw [flushAdvance, if_pos (by rw [hf]; rfl), hf]
  rfl

theorem flushAdvance_next (hf : s.fcnt.toNat < 19) :
    flushAdvance s = { s with fcnt := s.fcnt + 1, io := .send } := by
  rw [flushAdvance, if_neg (by rw [Config.flushLen]; omega)]

/-- Settles O23: the drain advances the pre-frame flush, by its count. -/
theorem preFlushStep : Obligations.PreFlushStep := by
  unfold Obligations.PreFlushStep
  intro s hs hp hio ha
  have hsend : s.sending = true := by simp only [State.sending, hp]
  have hstep : step s = .next (preAdvance s.afterRecv) :=
    (step_recv_advance hs hsend hio ha).trans (congrArg _ (advance_preflush hp))
  rw [hstep]
  exact ⟨fun hf => congrArg _ (preAdvance_last hf), fun hf => congrArg _ (preAdvance_next hf)⟩

/-- Settles O24: the drain advances the trailer, by its count. -/
theorem trailerStep : Obligations.TrailerStep := by
  unfold Obligations.TrailerStep
  intro s hs hp hio ha
  have hsend : s.sending = true := by simp only [State.sending, hp]
  have hstep : step s = .next (flushAdvance s.afterRecv) :=
    (step_recv_advance hs hsend hio ha).trans (congrArg _ (advance_flush hp))
  rw [hstep]
  exact ⟨fun hf => congrArg _ (flushAdvance_last hf), fun hf => congrArg _ (flushAdvance_next hf)⟩

/-! ### The length of a frame (R141, R142) -/

theorem length_flushRun : flushRun.length = 20 := List.length_replicate

theorem length_preFlush (idleHigh : Bool) : (preFlush idleHigh).length = if idleHigh then 20 else 0 := by
  cases idleHigh <;> rfl

theorem length_colours (cs : List Colour) : (cs.flatMap encodeColour).length = 12 * cs.length := by
  induction cs with
  | nil => rfl
  | cons c cs ih =>
    have hc : (encodeColour c).length = 12 := rfl
    rw [List.flatMap_cons, List.length_append, ih, hc, List.length_cons]
    omega

theorem length_frameBytes (idleHigh : Bool) (cs : List Colour) :
    (frameBytes idleHigh cs).length = 12 * cs.length + 20 + (if idleHigh then 20 else 0) := by
  rw [frameBytes, List.length_append, List.length_append, length_preFlush, length_colours,
    length_flushRun]
  omega

/-- Settles O49: part by part of the frame. -/
theorem frameLength : Obligations.FrameLength := by
  unfold Obligations.FrameLength
  exact ⟨rfl, rfl, length_frameBytes⟩

end Sys2Proof.Machine
end

section
/-! PROOFS of a whole write (R140, R144): which tokens and byte slots a state leads to is a matter of its
registers alone, an IDLE state leads to a frame, and a run does what is ahead, up to the first send that
fails. -/

namespace Sys2Proof.Machine

variable {s t u v : State} {i : Instr} {is js : List Instr} {b : Byte} {bs cs : List Byte}
  {j k : Nat} {evs evs' : List Event}

/-! ### A token taken (R131) -/

/-- What a token does to the registers where it is taken (R132, R134, R136). -/
inductive Takes : Instr → State → State → Prop
  | start {s : State} (hp : s.phase = .idle) : Takes .start s (startWrite Config.idleHigh s)
  | color {s : State} {r g b : Byte} (hp : s.phase = .wait) :
      Takes (.color r g b) s (latchColour r g b s)
  | finish {s : State} (hp : s.phase = .wait) : Takes .finish s (startFlush .flush s)

theorem Takes.tokenReady (h : Takes i s u) : s.tokenReady = true := by
  cases h with
  | start hp => exact tokenReady_idle hp
  | color hp | finish hp => exact tokenReady_wait hp

theorem sameBlock_accept (i : Instr) (s : State) : SameBlock s (s.accept i) :=
  ⟨rfl, rfl, rfl, rfl, rfl, rfl, rfl, rfl, rfl, rfl⟩

/-- The ports and the record are not read. -/
theorem Takes.withPorts (h : Takes i s u) (p : State) :
    Takes i (State.withPorts p s) (State.withPorts p u) := by
  cases h with
  | start hp =>
    have hcomm : ∀ idleHigh, State.withPorts p (startWrite idleHigh s) =
        startWrite idleHigh (State.withPorts p s) := by
      intro idleHigh; cases idleHigh <;> rfl
    rw [hcomm]
    exact .start hp
  | color hp => exact .color hp
  | finish hp => exact .finish hp

theorem Takes.exec (h : Takes i s u) : exec i s = .next (u.accept i) := by
  cases h with
  | start hp =>
    rw [exec_start_idle hp]
    cases Config.idleHigh <;> rfl
  | color hp => exact exec_color_wait hp _ _ _
  | finish hp => exact exec_finish_wait hp

/-- A token that can be taken has a word of its own. -/
theorem Takes.word (h : Takes i s u) : ∃ w, encodeToken i = some w ∧ decodeToken w = .ok i := by
  cases h with
  | start => exact ⟨_, rfl, rfl⟩
  | color => exact ⟨_, rfl, decodeToken_tokenWord_color _ _ _⟩
  | finish => exact ⟨_, rfl, rfl⟩

/-- The step with the token first on the port, for a state that has the registers of `s`. -/
theorem Takes.step (h : Takes i s u) (hsame : SameBlock s t) (hbench : t.symPort = none)
    {ws : List Token} (ht : t.tokenPort = tokenWords (i :: is) ++ ws) :
    step t = .next
      ((State.withPorts { t with tokenPort := tokenWords is ++ ws } u).accept i) := by
  obtain ⟨w, hw, hd⟩ := h.word
  have hport : t.tokenPort = w :: (tokenWords is ++ ws) := by
    rw [ht, tokenWords, List.filterMap_cons_some hw]; rfl
  have htakes := h.withPorts { t with tokenPort := tokenWords is ++ ws }
  have hregs : State.withPorts { t with tokenPort := tokenWords is ++ ws } s =
      { t with tokenPort := tokenWords is ++ ws } :=
    (SameBlock.eq_withPorts (t := { t with tokenPort := tokenWords is ++ ws }) { hsame with }).symm
  rw [hregs] at htakes
  rw [step_token hbench htakes.tokenReady hport hd, htakes.exec]

/-! ### What is ahead of a state -/

/-- From the registers of `s`, the tokens `is`, each taken where one is next, and the byte slots of `bs`,
each of them done, lead to the registers of `t`. -/
inductive Plan : State → List Instr → List Byte → State → Prop
  | nil (s : State) : Plan s [] [] s
  | slot {s t : State} {is : List Instr} {b : Byte} {bs : List Byte} (hio : s.io = .send)
      (hout : s.out = some b) (hrest : Plan (advance { s with io := .recv }) is bs t) :
      Plan s is (b :: bs) t
  | token {s u t : State} {i : Instr} {is : List Instr} {bs : List Byte} (htakes : Takes i s u)
      (hrest : Plan u is bs t) : Plan s (i :: is) bs t

/-- Byte slots with no token among them come first. -/
theorem Slots.plan (h : Slots s bs u) (h' : Plan u is cs t) : Plan s is (bs ++ cs) t := by
  induction h with
  | nil => exact h'
  | cons hio hout _ ih => exact .slot hio hout (ih h')

/-! ### The flush runs (R132, R133, R136, R137) -/

theorem advance_flushing_next (hp : s.phase = .preflush ∨ s.phase = .flush)
    (hf : s.fcnt.toNat < 19) : advance s = { s with fcnt := s.fcnt + 1, io := .send } := by
  rcases hp with hp | hp
  · rw [advance_preflush hp, preAdvance_next hf]
  · rw [advance_flush hp, flushAdvance_next hf]

/-- A flush run with `n` slots to go before its last. -/
theorem slots_flushing (n : Nat) (hp : s.phase = .preflush ∨ s.phase = .flush) (hio : s.io = .send)
    (hf : s.fcnt.toNat + n = 19) :
    Slots s (List.replicate (n + 1) flushByte) (advance { s with fcnt := 19, io := .recv }) := by
  induction n generalizing s with
  | zero =>
    have hlast : s.fcnt = 19 := by bv_omega
    rw [← hlast]
    exact .cons hio (out_flushing hp) (.nil _)
  | succ n ih =>
    have hnext : (s.fcnt + 1).toNat + n = 19 := by bv_omega
    have hadvance : advance { s with io := .recv } = { s with fcnt := s.fcnt + 1, io := .send } :=
      advance_flushing_next (s := { s with io := .recv }) hp (show s.fcnt.toNat < 19 by omega)
    refine .cons hio (out_flushing hp) ?_
    rw [hadvance]
    exact ih (s := { s with fcnt := s.fcnt + 1, io := .send }) hp rfl hnext

/-- An accepted START leads to the pre-frame flush, if any, and to WAIT. -/
theorem slots_startWrite (idleHigh : Bool) (s : State) :
    ∃ t, Slots (startWrite idleHigh s) (preFlush idleHigh) t ∧ t.phase = .wait := by
  cases idleHigh with
  | false => exact ⟨_, .nil _, rfl⟩
  | true =>
    have h := slots_flushing 19 (s := startFlush .preflush s.markBusy) (.inl rfl) rfl rfl
    rw [advance_preflush rfl, preAdvance_last rfl] at h
    exact ⟨_, h, rfl⟩

/-- An accepted END leads to the trailer and to IDLE with OK. -/
theorem slots_trailer (s : State) :
    ∃ t, Slots (startFlush .flush s) flushRun t ∧ t.phase = .idle ∧ t.status = .ok := by
  have h := slots_flushing 19 (s := startFlush .flush s) (.inr rfl) rfl rfl
  rw [advance_flush rfl, flushAdvance_last rfl] at h
  exact ⟨_, h, rfl, rfl⟩

/-! ### The frame (R140) -/

theorem plan_finish (hp : s.phase = .wait) :
    ∃ t, Plan s [.finish] flushRun t ∧ t.phase = .idle ∧ t.status = .ok := by
  obtain ⟨t, hslots, hidle, hok⟩ := slots_trailer s
  have h := hslots.plan (.nil t)
  rw [List.append_nil] at h
  exact ⟨t, .token (.finish hp) h, hidle, hok⟩

section
variable {P : State → Prop} (hrest : ∀ u : State, u.phase = .wait → ∃ t, Plan u is bs t ∧ P t)
include hrest

/-- The colours of a list, then what follows them from WAIT. -/
theorem plan_colours (cols : List Colour) (hp : s.phase = .wait) :
    ∃ t, Plan s (cols.map (fun c => .color c.1 c.2.1 c.2.2) ++ is) (cols.flatMap encodeColour ++ bs) t ∧
      P t := by
  induction cols generalizing s with
  | nil => exact hrest s hp
  | cons c cols ih =>
    obtain ⟨u, hslots, hwait, -⟩ := slots_latchColour c s
    obtain ⟨t, hplan, ht⟩ := ih hwait
    rw [List.flatMap_cons, List.append_assoc]
    exact ⟨t, .token (.color hp) (hslots.plan hplan), ht⟩

/-- A write up to its last colour, then what follows from WAIT. -/
theorem plan_openFrame_then (cols : List Colour) (hp : s.phase = .idle) :
    ∃ t, Plan s (openFrame cols ++ is)
      (preFlush Config.idleHigh ++ (cols.flatMap encodeColour ++ bs)) t ∧ P t := by
  obtain ⟨u, hslots, hwait⟩ := slots_startWrite Config.idleHigh s
  obtain ⟨t, hplan, ht⟩ := plan_colours hrest cols hwait
  exact ⟨t, .token (.start hp) (hslots.plan hplan), ht⟩

end

/-- A whole write is ahead of every IDLE state, and IDLE with OK after it. -/
theorem plan_frame (cols : List Colour) (hp : s.phase = .idle) :
    ∃ t, Plan s (frameInstrs cols) (frameBytes Config.idleHigh cols) t ∧ t.phase = .idle ∧
      t.status = .ok :=
  plan_openFrame_then (fun _ => plan_finish) cols hp

/-! ### What a trace says of its attempts alone -/

theorem attempts_append (evs evs' : List Event) :
    attempts (evs ++ evs') = attempts evs ++ attempts evs' := List.filter_append ..

theorem acceptedTokens_append (evs evs' : List Event) :
    acceptedTokens (evs ++ evs') = acceptedTokens evs ++ acceptedTokens evs' := List.filterMap_append

theorem acceptedTokens_attempts (evs : List Event) : acceptedTokens (attempts evs) = [] := by
  induction evs with
  | nil => rfl
  | cons e evs ih => cases e <;> exact ih

/-- Two traces that end with nothing outstanding, one after the other. -/
theorem slotAfter_append (h : slotAfter evs = some .ready) :
    slotAfter (evs ++ evs') = slotAfter evs' := by
  rw [slotAfter, List.foldlM_append]
  rw [slotAfter] at h
  rw [h]; rfl

/-! ### A byte slot at the port (R53 to R55) -/

theorem attempts_blockingSend (b : Byte) (rs : List RecvAnswer) (as : List SendAnswer) :
    attempts (blockingSend b rs as).events = (blockingSend b rs as).events := by
  induction as with
  | nil => rfl
  | cons a as ih =>
    cases a with
    | ok | err => rfl
    | wouldBlock => exact congrArg (Event.send b .wouldBlock :: ·) ih

theorem attempts_drain (as : List SendAnswer) (rs : List RecvAnswer) :
    attempts (drain as rs).events = (drain as rs).events := by
  induction rs with
  | nil => rfl
  | cons a rs ih =>
    cases a with
    | value | err => rfl
    | wouldBlock => exact congrArg (Event.recv .wouldBlock :: ·) ih

theorem attempts_byteSlot (b : Byte) (as : List SendAnswer) (rs : List RecvAnswer) :
    attempts (byteSlot b as rs).events = (byteSlot b as rs).events := by
  by_cases h : (blockingSend b rs as).ending = .done
  · rw [byteSlot_of_done h, attempts_append, attempts_blockingSend, attempts_drain]
  · rw [byteSlot_of_ne_done h, attempts_blockingSend]

/-- A send operation at a port where its byte may be offered. -/
theorem port_sendOperation {p : Slot} (hp : p = .ready ∨ p = .sending b) (n : Nat) (a : SendAnswer) :
    List.foldlM Slot.next p (List.replicate n (Event.send b .wouldBlock) ++ [.send b a]) =
      some (Slot.afterAnswer b a) := by
  have hfirst : ∀ a, p.next (.send b a) = some (Slot.afterAnswer b a) := by
    intro a
    rcases hp with rfl | rfl
    · rfl
    · exact if_pos rfl
  induction n generalizing p with
  | zero => simp [hfirst]
  | succ n ih =>
    simp only [List.replicate_succ, List.cons_append, List.foldlM_cons, hfirst]
    exact ih (.inr rfl) fun a => if_pos rfl

/-- A receive operation at a port where a drain is outstanding. -/
theorem port_recvOperation {a : RecvAnswer} (ha : a ≠ .wouldBlock) (n : Nat) :
    List.foldlM Slot.next .draining (List.replicate n (Event.recv .wouldBlock) ++ [.recv a]) =
      some .ready := by
  induction n with
  | zero => simp [Slot.next_recv_of_ne_wouldBlock ha]
  | succ n ih => exact ih

/-- A byte slot that ends leaves nothing outstanding. -/
theorem slotAfter_byteSlot {as : List SendAnswer} {rs : List RecvAnswer}
    (hend : (byteSlot b as rs).ending ≠ .waiting) :
    slotAfter (byteSlot b as rs).events = some .ready := by
  rcases blockingSend_cases b rs as with h | ⟨n, as', -, h⟩ | ⟨n, e, as', -, h⟩
  · rw [byteSlot_of_ne_done (by simp [h])] at hend
    exact absurd h hend
  · rw [byteSlot_of_done (by rw [h]), h] at hend ⊢
    rcases drain_cases as' rs with h' | ⟨m, a, rs', ha, -, h'⟩
    · exact absurd h' hend
    · rw [slotAfter, h', List.foldlM_append, port_sendOperation (.inl rfl)]
      exact port_recvOperation ha m
  · rw [byteSlot_of_ne_done (by simp [h]), h]
    exact port_sendOperation (.inl rfl) n (.err e)

/-! ### A run does what is ahead -/

/-- A run of `k` steps from `s` to `t` shows the events `evs`: its attempts are those of `x`, its tokens come
off the port, and nothing is outstanding after it. -/
structure Carries (s : State) (k : Nat) (t : State) (evs : List Event) (x : Transfer) : Prop where
  reaches : Reaches s k t
  bench : t.symPort = none
  tokenPort : s.tokenPort = tokenWords (acceptedTokens evs) ++ t.tokenPort
  trace : t.trace = s.trace ++ evs
  attempts : attempts evs = x.events
  order : slotAfter evs = some .ready
  sendScript : t.sendScript = x.sends
  recvScript : t.recvScript = x.recvs

theorem carries_refl (hs : s.symPort = none) (e : Ending) :
    Carries s 0 s [] ⟨[], e, s.sendScript, s.recvScript⟩ :=
  ⟨reaches_refl s, hs, rfl, (List.append_nil _).symm, rfl, rfl, rfl, rfl⟩

theorem Carries.trans {x y : Transfer} (h : Carries s j u evs x) (h' : Carries u k t evs' y) :
    Carries s (j + k) t (evs ++ evs') { y with events := x.events ++ y.events } where
  reaches := reaches_trans h.reaches h'.reaches
  bench := h'.bench
  tokenPort := by
    rw [h.tokenPort, h'.tokenPort, acceptedTokens_append, tokenWords, tokenWords, tokenWords,
      List.filterMap_append, List.append_assoc]
  trace := by rw [h'.trace, h.trace, List.append_assoc]
  attempts := by rw [attempts_append, h.attempts, h'.attempts]
  order := by rw [slotAfter_append h.order, h'.order]
  sendScript := h'.sendScript
  recvScript := h'.recvScript

/-- A byte slot takes no token. -/
theorem Performs.carries {as : List SendAnswer} {rs : List RecvAnswer}
    (h : Performs s k t (byteSlot b as rs)) (hend : (byteSlot b as rs).ending ≠ .waiting) :
    Carries s k t (byteSlot b as rs).events (byteSlot b as rs) where
  reaches := h.reaches
  bench := h.bench
  tokenPort := by rw [← attempts_byteSlot, acceptedTokens_attempts, h.tokenPort]; rfl
  trace := h.trace
  attempts := attempts_byteSlot b as rs
  order := slotAfter_byteSlot hend
  sendScript := h.sendScript
  recvScript := h.recvScript

/-- A token makes no attempt. -/
theorem Takes.carries (h : Takes i s u) (hsame : SameBlock s t) (hbench : t.symPort = none)
    {ws : List Token} (ht : t.tokenPort = tokenWords (i :: is) ++ ws) (e : Ending) :
    ∃ t', Carries t 1 t' [.accept i] ⟨[], e, t.sendScript, t.recvScript⟩ ∧ SameBlock u t' ∧
      t'.tokenPort = tokenWords is ++ ws := by
  refine ⟨(State.withPorts { t with tokenPort := tokenWords is ++ ws } u).accept i, ?_,
    (sameBlock_withPorts _ u).trans (sameBlock_accept i _), rfl⟩
  exact {
    reaches := reaches_step (h.step hsame hbench ht)
    bench := hbench
    tokenPort := by
      rw [ht, ← List.singleton_append, tokenWords, List.filterMap_append, List.append_assoc]; rfl
    trace := rfl
    attempts := rfl
    order := rfl
    sendScript := rfl
    recvScript := rfl }

/-- Unless the answers run out, a run does what is ahead: all of it, or up to the first send that fails. -/
theorem Plan.carries (h : Plan s is bs t) {s' : State} {ws : List Token} (hsame : SameBlock s s')
    (hbench : s'.symPort = none) (ht : s'.tokenPort = tokenWords is ++ ws)
    (hend : (byteSlots bs s'.sendScript s'.recvScript).ending ≠ .waiting) :
    ∃ k t' evs, Carries s' k t' evs (byteSlots bs s'.sendScript s'.recvScript) ∧
      EndsAt t (byteSlots bs s'.sendScript s'.recvScript).ending t' ∧ acceptedTokens evs <+: is ∧
      ((byteSlots bs s'.sendScript s'.recvScript).ending = .done → acceptedTokens evs = is) := by
  induction h generalizing s' with
  | nil s => exact ⟨0, s', [], carries_refl hbench .done, hsame, List.prefix_rfl, fun _ => rfl⟩
  | @token s u t i is bs htakes _ ih =>
    obtain ⟨u', hfirst, hu, hport⟩ := htakes.carries hsame hbench ht .done
    have hsends : u'.sendScript = s'.sendScript := hfirst.sendScript
    have hrecvs : u'.recvScript = s'.recvScript := hfirst.recvScript
    rw [← hsends, ← hrecvs] at hend ⊢
    obtain ⟨k, t', evs, hrest, hends, hprefix, hall⟩ := ih hu hfirst.bench hport hend
    exact ⟨_, t', _, hfirst.trans hrest, hends, (List.prefix_cons_inj i).2 hprefix,
      fun hdone => congrArg (i :: ·) (hall hdone)⟩
  | @slot s t is b bs hio hout _ ih =>
    have hio' := hsame.io.trans hio
    have hout' := hsame.out_eq.trans hout
    rw [byteSlots] at hend ⊢
    cases hslot : (byteSlot b s'.sendScript s'.recvScript).ending with
    | waiting =>
      rw [andThen_of_ne_done (by simp [hslot])] at hend
      exact absurd hslot hend
    | failed e =>
      obtain ⟨k, t', hrun, hsame'⟩ := performs_byteSlot_failed hbench hio' hout' hslot
      have hrun := hrun.carries (by simp [hslot])
      rw [andThen_of_ne_done (by simp [hslot]), hslot]
      refine ⟨k, t', _, hrun, ⟨hsame'.phase, hsame'.status⟩, ?_, nofun⟩
      rw [← attempts_byteSlot, acceptedTokens_attempts]
      exact List.nil_prefix
    | done =>
      obtain ⟨j, u, hperf, hu⟩ := performs_byteSlot_done hbench hio' hout' hslot
      have hfirst := hperf.carries (by simp [hslot])
      have hdrain : SameBlock { s with io := .recv } { s' with io := .recv } :=
        { hsame with io := rfl }
      rw [andThen_of_done hslot, ← hfirst.sendScript, ← hfirst.recvScript] at hend ⊢
      obtain ⟨k, t', evs, hrest, hends, htokens⟩ :=
        ih (hdrain.advance.trans hu) hfirst.bench (hperf.tokenPort.trans ht) hend
      refine ⟨_, t', _, hfirst.trans hrest, hends, ?_⟩
      rw [acceptedTokens_append, ← attempts_byteSlot, acceptedTokens_attempts]
      exact htokens

/-- The words of the tokens a run did not take are left on the port. -/
theorem Carries.tokenPort_rest {x : Transfer} (h : Carries s k t evs x) {ws : List Token}
    (hs : s.tokenPort = tokenWords is ++ ws) (hprefix : acceptedTokens evs <+: is) :
    t.tokenPort = tokenWords (is.drop (acceptedTokens evs).length) ++ ws := by
  obtain ⟨rest, rfl⟩ := hprefix
  rw [h.tokenPort, tokenWords, tokenWords, List.filterMap_append, List.append_assoc] at hs
  rw [List.drop_left]
  exact List.append_cancel_left hs

/-- The run of a whole write, unless the answers run out. -/
theorem carries_frame {cols : List Colour} {ws : List Token} (hs : s.symPort = none)
    (hp : s.phase = .idle) (ht : s.tokenPort = tokenWords (frameInstrs cols) ++ ws) {x : Transfer}
    (hx : x = byteSlots (frameBytes Config.idleHigh cols) s.sendScript s.recvScript)
    (hend : x.ending ≠ .waiting) :
    ∃ k t evs, Carries s k t evs x ∧ t.phase = .idle ∧
      t.tokenPort = tokenWords ((frameInstrs cols).drop (acceptedTokens evs).length) ++ ws ∧
      acceptedTokens evs <+: frameInstrs cols ∧
      (x.ending = .done → t.status = .ok ∧ acceptedTokens evs = frameInstrs cols) ∧
      ∀ e, x.ending = .failed e → t.status = .err e := by
  subst hx
  obtain ⟨v, hplan, hidle, hok⟩ := plan_frame cols hp
  obtain ⟨k, t, evs, h, hends, hprefix, hall⟩ := hplan.carries (.refl s) hs ht hend
  refine ⟨k, t, evs, h, ?_, h.tokenPort_rest ht hprefix, hprefix, fun hdone => ?_, fun e hfailed => ?_⟩
  · cases hending : (byteSlots (frameBytes Config.idleHigh cols) s.sendScript s.recvScript).ending with
    | done => exact (hends.sameBlock hending).phase.trans hidle
    | failed e => exact (hends.aborted hending).1
    | waiting => exact absurd hending hend
  · exact ⟨(hends.sameBlock hdone).status.trans hok, hall hdone⟩
  · exact (hends.aborted hfailed).2

/-- Settles O43: a run does the frame ahead of an IDLE state. -/
theorem writeRefinesFrame : Obligations.WriteRefinesFrame := by
  unfold Obligations.WriteRefinesFrame
  intro s cols ws x hs hp ht hx
  constructor
  · intro hdone
    obtain ⟨k, t, evs, h, hidle, hport, -, hok, -⟩ := carries_frame hs hp ht hx (hdone.trans_ne nofun)
    obtain ⟨hstatus, hall⟩ := hok hdone
    rw [hall, List.drop_length] at hport
    exact ⟨k, t, evs, h.reaches, hidle, hstatus, hport, h.trace, h.attempts, hall, h.sendScript,
      h.recvScript⟩
  · intro e hfailed
    obtain ⟨k, t, evs, h, hidle, hport, hprefix, -, herr⟩ :=
      carries_frame hs hp ht hx (hfailed.trans_ne nofun)
    exact ⟨k, t, evs, h.reaches, hidle, herr e hfailed, h.trace, h.attempts, hprefix, hport,
      h.sendScript, h.recvScript⟩

end Sys2Proof.Machine
end

section
/-! PROOFS of what may follow an IDLE state: nothing is observed before a START is taken (R131, R177, R191),
and the tokens a broken-off write leaves on the port are not taken (R139). -/

namespace Sys2Proof.Machine

variable {s t u : State} {k : Nat}

/-- Everything a step can do from IDLE: hold, or take a START. -/
theorem step_idle_cases (hs : s.symPort = none) (hp : s.phase = .idle) (h : step s = .next t) :
    (s.tokenPort = [] ∧ t = s) ∨
    ∃ w ws, s.tokenPort = w :: ws ∧ decodeToken w = .ok .start ∧
      t = startWrite Config.idleHigh (State.accept .start { s with tokenPort := ws }) := by
  have hsend : s.sending = false := by simp only [State.sending, hp]
  rcases step_cases hs h with ⟨-, ht, rfl⟩ | ⟨w, ws, -, ht, hd, rfl⟩ | ⟨_, _, _, _, _, hwait, -⟩ |
    ⟨_, _, hwait, -⟩ | ⟨_, hsend', -⟩ | ⟨hsend', -⟩
  · exact .inl ⟨ht, rfl⟩
  · exact .inr ⟨w, ws, ht, hd, rfl⟩
  · cases hp.symm.trans hwait
  · cases hp.symm.trans hwait
  · cases hsend.symm.trans hsend'
  · cases hsend.symm.trans hsend'

/-- No step from IDLE makes an attempt. -/
theorem attempts_step_idle (hs : s.symPort = none) (hp : s.phase = .idle) (h : step s = .next t) :
    attempts t.trace = attempts s.trace := by
  rcases step_idle_cases hs hp h with ⟨-, rfl⟩ | ⟨w, ws, -, -, rfl⟩
  · rfl
  · rw [startWrite_trace, accept_trace, attempts_append]
    exact List.append_nil _

/-- The record of the past only grows, in any run. -/
theorem reaches_trace (hs : s.symPort = none) (h : Reaches s k t) :
    ∃ evs, t.trace = s.trace ++ evs := by
  refine (reaches_invariant (P := fun t => t.symPort = none ∧ ∃ evs, t.trace = s.trace ++ evs)
    ?_ ⟨hs, [], (List.append_nil _).symm⟩ h).2
  rintro u v ⟨hu, evs, hevs⟩ hstep
  obtain ⟨evs', hevs'⟩ := step_trace hu hstep
  exact ⟨step_symPort hu hstep, evs ++ evs', by rw [hevs', hevs, List.append_assoc]⟩

/-- In a run from IDLE nothing is observed before a START is taken. -/
theorem trace_of_reaches_idle (hs : s.symPort = none) (hp : s.phase = .idle) (h : Reaches s k t) :
    t.trace = s.trace ∨ ∃ evs, t.trace = s.trace ++ .accept .start :: evs := by
  induction k with
  | zero => cases h; exact .inl rfl
  | succ k ih =>
    obtain ⟨u, hu, hrest⟩ := reaches_succ_iff.1 h
    rcases step_idle_cases hs hp hu with ⟨-, rfl⟩ | ⟨w, ws, -, -, rfl⟩
    · exact ih hrest
    · obtain ⟨evs, hevs⟩ := reaches_trace (step_symPort hs hu) hrest
      rw [startWrite_trace, accept_trace, List.append_assoc] at hevs
      exact .inr ⟨evs, hevs⟩

/-- The tokens of a write after its START have words of their own and are no START. -/
theorem word_of_mem_colours {cols : List Colour} {i : Instr}
    (h : i ∈ cols.map (fun c => Instr.color c.1 c.2.1 c.2.2) ++ [.finish]) :
    i ≠ .start ∧ ∃ w, encodeToken i = some w ∧ decodeToken w = .ok i := by
  rcases List.mem_append.1 h with hmem | hmem
  · obtain ⟨c, -, rfl⟩ := List.mem_map.1 hmem
    exact ⟨nofun, _, rfl, decodeToken_tokenWord_color _ _ _⟩
  · cases List.mem_singleton.1 hmem
    exact ⟨nofun, _, rfl, rfl⟩

/-- In IDLE a token that is no START is refused: there is no step. -/
theorem no_step_idle {i : Instr} {is : List Instr} {ws : List Token} (hs : s.symPort = none)
    (hp : s.phase = .idle) (ht : s.tokenPort = tokenWords (i :: is) ++ ws) (hi : i ≠ .start)
    (hword : ∃ w, encodeToken i = some w ∧ decodeToken w = .ok i) : step s ≠ .next t := by
  intro hstep
  obtain ⟨w, hw, hd⟩ := hword
  rw [tokenWords, List.filterMap_cons_some hw] at ht
  rcases step_idle_cases hs hp hstep with ⟨hnil, -⟩ | ⟨w', ws', hcons, hd', -⟩
  · rw [hnil] at ht; cases ht
  · obtain rfl : w' = w := (List.cons.inj (hcons.symm.trans ht)).1
    rw [hd] at hd'; cases hd'
    exact hi rfl

end Sys2Proof.Machine
end

section
/-! PROOFS of a write under a transport that answers every operation in the end: if it fails no send, and
if it fails one (R140, R141, R144, R145). -/

namespace Sys2Proof.Machine

variable {s t : State} {b : Byte} {bs cs : List Byte} {as : List SendAnswer} {rs : List RecvAnswer}
  {evs evs' : List Event} {k m n : Nat}

/-! ### What a trace shows at the transport port (R16, R51, R54) -/

theorem offeredBytes_append (evs evs' : List Event) :
    offeredBytes (evs ++ evs') = offeredBytes evs ++ offeredBytes evs' := List.filterMap_append

theorem sentBytes_append (evs evs' : List Event) :
    sentBytes (evs ++ evs') = sentBytes evs ++ sentBytes evs' := List.filterMap_append

/-- The bytes a trace offers, those of them the transport accepts, and how many drains end. -/
structure Shows (evs : List Event) (offered sent : List Byte) (drains : Nat) : Prop where
  offered : offeredBytes evs = offered
  sent : sentBytes evs = sent
  drains : drainCount evs = drains

theorem Shows.append {bs' cs' : List Byte} (h : Shows evs bs cs m) (h' : Shows evs' bs' cs' n) :
    Shows (evs ++ evs') (bs ++ bs') (cs ++ cs') (m + n) where
  offered := by rw [offeredBytes_append, h.offered, h'.offered]
  sent := by rw [sentBytes_append, h.sent, h'.sent]
  drains := by rw [← h.drains, ← h'.drains]; exact List.countP_append

theorem offeredBytes_attempts (evs : List Event) : offeredBytes (attempts evs) = offeredBytes evs := by
  induction evs with
  | nil => rfl
  | cons e evs ih =>
    cases e with
    | accept i => exact ih
    | recv a => exact ih
    | send b a =>
      cases a with
      | ok | err => exact congrArg (b :: ·) ih
      | wouldBlock => exact ih

theorem sentBytes_attempts (evs : List Event) : sentBytes (attempts evs) = sentBytes evs := by
  induction evs with
  | nil => rfl
  | cons e evs ih =>
    cases e with
    | accept i => exact ih
    | recv a => exact ih
    | send b a =>
      cases a with
      | ok => exact congrArg (b :: ·) ih
      | wouldBlock | err => exact ih

theorem drainCount_attempts (evs : List Event) : drainCount (attempts evs) = drainCount evs := by
  unfold drainCount attempts
  rw [List.countP_filter]
  congr 1
  funext e
  cases e with
  | accept i | send b a => simp [Event.isDrain]
  | recv a => simp [Event.isAttempt]

/-- Token acceptances are not seen at the transport port. -/
theorem Shows.of_attempts (h : Shows (attempts evs) bs cs n) : Shows evs bs cs n where
  offered := by rw [← offeredBytes_attempts, h.offered]
  sent := by rw [← sentBytes_attempts, h.sent]
  drains := by rw [← drainCount_attempts, h.drains]

theorem shows_sendRetries (n : Nat) (b : Byte) :
    Shows (List.replicate n (Event.send b .wouldBlock)) [] [] 0 := by
  induction n with
  | zero => exact ⟨rfl, rfl, rfl⟩
  | succ n ih => exact Shows.append (evs := [_]) ⟨rfl, rfl, rfl⟩ ih

theorem shows_recvRetries (n : Nat) : Shows (List.replicate n (Event.recv .wouldBlock)) [] [] 0 := by
  induction n with
  | zero => exact ⟨rfl, rfl, rfl⟩
  | succ n ih => exact Shows.append (evs := [_]) ⟨rfl, rfl, rfl⟩ ih

theorem shows_drained {a : RecvAnswer} (ha : a ≠ .wouldBlock) : Shows [.recv a] [] [] 1 := by
  cases a with
  | wouldBlock => exact absurd rfl ha
  | value | err => exact ⟨rfl, rfl, rfl⟩

/-! ### Byte slots under answers that come in the end (R53 to R55) -/

theorem blockingSend_retries (n : Nat) (b : Byte) (rs : List RecvAnswer) (as : List SendAnswer) :
    blockingSend b rs (List.replicate n .wouldBlock ++ as) =
      { blockingSend b rs as with
        events := List.replicate n (Event.send b .wouldBlock) ++ (blockingSend b rs as).events } := by
  induction n with
  | zero => rfl
  | succ n ih => rw [List.replicate_succ, List.cons_append, blockingSend, ih]; rfl

theorem drain_retries (n : Nat) (as : List SendAnswer) (rs : List RecvAnswer) :
    drain as (List.replicate n .wouldBlock ++ rs) =
      { drain as rs with
        events := List.replicate n (Event.recv .wouldBlock) ++ (drain as rs).events } := by
  induction n with
  | zero => rfl
  | succ n ih => rw [List.replicate_succ, List.cons_append, drain, ih]; rfl

theorem drain_answered {a : RecvAnswer} (ha : a ≠ .wouldBlock) (as : List SendAnswer)
    (rs : List RecvAnswer) : drain as (a :: rs) = ⟨[.recv a], .done, as, rs⟩ := by
  cases a with
  | wouldBlock => exact absurd rfl ha
  | value | err => rfl

/-- A slot whose byte is taken and drained in the end. -/
theorem byteSlot_live (b : Byte) (n m : Nat) {a : RecvAnswer} (ha : a ≠ .wouldBlock) :
    ∃ evs, Shows evs [b] [b] 1 ∧
      byteSlot b (List.replicate n .wouldBlock ++ .ok :: as) (List.replicate m .wouldBlock ++ a :: rs) =
        ⟨evs, .done, as, rs⟩ := by
  have hsend := (shows_sendRetries n b).append (evs' := [.send b .ok]) ⟨rfl, rfl, rfl⟩
  have hdrain := (shows_recvRetries m).append (shows_drained ha)
  refine ⟨_, hsend.append hdrain, ?_⟩
  rw [byteSlot, blockingSend_retries, blockingSend, andThen_of_done rfl, drain_retries,
    drain_answered ha]

/-- A slot whose send fails in the end. -/
theorem byteSlot_fails (b : Byte) (n : Nat) (e : TransportErr) :
    ∃ evs, Shows evs [b] [] 0 ∧
      byteSlot b (List.replicate n .wouldBlock ++ .err e :: as) rs = ⟨evs, .failed e, as, rs⟩ := by
  refine ⟨_, (shows_sendRetries n b).append (evs' := [.send b (.err e)]) ⟨rfl, rfl, rfl⟩, ?_⟩
  rw [byteSlot, blockingSend_retries, blockingSend, andThen_of_ne_done (by simp)]

theorem liveSends_cons_append (n : Nat) (ns : List Nat) (as : List SendAnswer) :
    liveSends (n :: ns) ++ as = List.replicate n .wouldBlock ++ .ok :: (liveSends ns ++ as) := by
  simp [liveSends]

theorem liveDrains_cons_append (d : Nat × RecvAnswer) (ds : List (Nat × RecvAnswer))
    (rs : List RecvAnswer) :
    liveDrains (d :: ds) ++ rs = List.replicate d.1 .wouldBlock ++ d.2 :: (liveDrains ds ++ rs) := by
  simp [liveDrains]

/-- Slots whose bytes are all taken and drained in the end, then others. -/
theorem byteSlots_live (cs : List Byte) {ns : List Nat} {ds : List (Nat × RecvAnswer)}
    (hns : ns.length = bs.length) (hds : ds.length = bs.length) (hd : ∀ d ∈ ds, d.2 ≠ .wouldBlock) :
    ∃ evs, Shows evs bs bs bs.length ∧
      byteSlots (bs ++ cs) (liveSends ns ++ as) (liveDrains ds ++ rs) =
        { byteSlots cs as rs with events := evs ++ (byteSlots cs as rs).events } := by
  induction bs generalizing ns ds with
  | nil =>
    cases List.length_eq_zero_iff.1 hns
    cases List.length_eq_zero_iff.1 hds
    exact ⟨[], ⟨rfl, rfl, rfl⟩, rfl⟩
  | cons b bs ih =>
    obtain ⟨n, ns, rfl⟩ := List.exists_cons_of_length_eq_add_one hns
    obtain ⟨d, ds, rfl⟩ := List.exists_cons_of_length_eq_add_one hds
    obtain ⟨hd, hds'⟩ := List.forall_mem_cons.1 hd
    obtain ⟨first, hfirst, hslot⟩ :=
      byteSlot_live (as := liveSends ns ++ as) (rs := liveDrains ds ++ rs) b n d.1 hd
    obtain ⟨rest, hrest, hslots⟩ := ih (Nat.succ.inj hns) (Nat.succ.inj hds) hds'
    have hall := hfirst.append hrest
    rw [Nat.add_comm] at hall
    refine ⟨first ++ rest, hall, ?_⟩
    rw [liveSends_cons_append, liveDrains_cons_append, List.cons_append, byteSlots, hslot,
      andThen_of_done rfl, hslots, List.append_assoc]

/-- Slots of which the one of `b` fails in the end: the others after it are not begun. -/
theorem byteSlots_fails (cs : List Byte) {ns : List Nat} {ds : List (Nat × RecvAnswer)} (n : Nat)
    (e : TransportErr) (hns : ns.length = bs.length) (hds : ds.length = bs.length)
    (hd : ∀ d ∈ ds, d.2 ≠ .wouldBlock) :
    ∃ evs, Shows evs (bs ++ [b]) bs bs.length ∧
      byteSlots (bs ++ b :: cs) (liveSends ns ++ (List.replicate n .wouldBlock ++ .err e :: as))
        (liveDrains ds ++ rs) = ⟨evs, .failed e, as, rs⟩ := by
  obtain ⟨first, hfirst, hlive⟩ := byteSlots_live (bs := bs)
    (as := List.replicate n .wouldBlock ++ .err e :: as) (rs := rs) (b :: cs) hns hds hd
  obtain ⟨last, hlast, hslot⟩ := byteSlot_fails (as := as) (rs := rs) b n e
  have hall := hfirst.append hlast
  rw [List.append_nil] at hall
  refine ⟨first ++ last, hall, ?_⟩
  rw [hlive, byteSlots, hslot, andThen_of_ne_done (by simp)]

/-! ### The write that completes (R140, R141, R145) -/

/-- A write under a transport that fails no send and answers every operation in the end. -/
theorem carries_liveWrite {cols : List Colour} {ns : List Nat} {ds : List (Nat × RecvAnswer)}
    {ws : List Token} (hs : s.symPort = none) (hp : s.phase = .idle)
    (ht : s.tokenPort = tokenWords (frameInstrs cols) ++ ws)
    (hsends : s.sendScript = liveSends ns ++ as) (hrecvs : s.recvScript = liveDrains ds ++ rs)
    (hns : ns.length = (frameBytes Config.idleHigh cols).length)
    (hds : ds.length = (frameBytes Config.idleHigh cols).length) (hd : ∀ d ∈ ds, d.2 ≠ .wouldBlock) :
    ∃ k t evs events, Carries s k t evs ⟨events, .done, as, rs⟩ ∧ t.phase = .idle ∧ t.status = .ok ∧
      t.tokenPort = ws ∧ acceptedTokens evs = frameInstrs cols ∧
      Shows evs (frameBytes Config.idleHigh cols) (frameBytes Config.idleHigh cols)
        (frameBytes Config.idleHigh cols).length := by
  obtain ⟨events, hshows, hslots⟩ := byteSlots_live (as := as) (rs := rs) [] hns hds hd
  rw [List.append_nil, ← hsends, ← hrecvs, byteSlots, List.append_nil] at hslots
  obtain ⟨k, t, evs, h, hidle, hport, -, hdone, -⟩ := carries_frame hs hp ht hslots.symm nofun
  obtain ⟨hok, hall⟩ := hdone rfl
  rw [hall, List.drop_length] at hport
  have hattempts : attempts evs = events := h.attempts
  rw [← hattempts] at hshows
  exact ⟨k, t, evs, events, h, hidle, hok, hport, hall, hshows.of_attempts⟩

/-- Settles O44: the slots of the frame are all done, and show its bytes. -/
theorem frameCompletes : Obligations.FrameCompletes := by
  unfold Obligations.FrameCompletes
  intro s cols ns ds ws as rs hs hp ht hsends hrecvs hns hds hd
  obtain ⟨k, t, evs, events, h, hidle, hok, hport, -, hshows⟩ :=
    carries_liveWrite hs hp ht hsends hrecvs hns hds hd
  refine ⟨k, t, evs, h.reaches, hidle, hok, hport, h.sendScript, h.recvScript, h.trace, hshows.sent,
    hshows.offered, ?_, ?_, h.order⟩
  · rw [hshows.sent, length_frameBytes]
  · rw [hshows.drains, hshows.sent]

/-- Settles O48: both writes show the bytes of one frame. -/
theorem writesIdempotent : Obligations.WritesIdempotent := by
  unfold Obligations.WritesIdempotent
  rintro s1 s2 cols ns1 ns2 ds1 ds2 ws1 ws2 ⟨hs1, hp1, ht1, hsends1, hrecvs1⟩
    ⟨hs2, hp2, ht2, hsends2, hrecvs2⟩ hlengths hd
  simp only [List.forall_mem_cons] at hlengths
  obtain ⟨hns1, hns2, hds1, hds2, -⟩ := hlengths
  obtain ⟨hd1, hd2⟩ := List.forall_mem_append.1 hd
  rw [← List.append_nil (liveSends _)] at hsends1 hsends2
  rw [← List.append_nil (liveDrains _)] at hrecvs1 hrecvs2
  obtain ⟨k1, t1, evs1, _, h1, hidle1, hok1, hport1, hall1, hshows1⟩ :=
    carries_liveWrite hs1 hp1 ht1 hsends1 hrecvs1 hns1 hds1 hd1
  obtain ⟨k2, t2, evs2, _, h2, hidle2, hok2, hport2, hall2, hshows2⟩ :=
    carries_liveWrite hs2 hp2 ht2 hsends2 hrecvs2 hns2 hds2 hd2
  exact ⟨k1, t1, evs1, k2, t2, evs2, ⟨h1.reaches, h1.trace, hall1, hport1, hidle1, hok1⟩,
    ⟨h2.reaches, h2.trace, hall2, hport2, hidle2, hok2⟩, hshows1.sent.trans hshows2.sent.symm,
    hshows1.offered.trans hshows2.offered.symm⟩

/-! ### The write that is broken off (R144, R174, R177) -/

/-- After a write broken off, either all its tokens had been taken or there is no step. -/
theorem all_taken_or_no_step {cols : List Colour} {ws : List Token} {x : Transfer}
    (h : Carries s k t evs x) (hs : s.symPort = none) (hp : s.phase = .idle) (hidle : t.phase = .idle)
    (hport : t.tokenPort = tokenWords ((frameInstrs cols).drop (acceptedTokens evs).length) ++ ws)
    (hprefix : acceptedTokens evs <+: frameInstrs cols) (hoffered : offeredBytes evs ≠ []) :
    acceptedTokens evs = frameInstrs cols ∨ ∀ u, step t ≠ .next u := by
  obtain ⟨later, rfl⟩ : ∃ later, evs = .accept .start :: later := by
    rcases trace_of_reaches_idle hs hp h.reaches with hsame | ⟨later, hlater⟩
    · have hnil : evs = [] := List.append_right_eq_self.1 (h.trace.symm.trans hsame)
      rw [hnil] at hoffered
      exact absurd rfl hoffered
    · exact ⟨later, List.append_cancel_left (h.trace.symm.trans hlater)⟩
  obtain ⟨rest, hrest⟩ := hprefix
  rw [← hrest, List.drop_left] at hport
  cases rest with
  | nil => exact .inl ((List.append_nil _).symm.trans hrest)
  | cons i rest =>
    have htail : acceptedTokens later ++ i :: rest =
        cols.map (fun c => Instr.color c.1 c.2.1 c.2.2) ++ [.finish] := (List.cons.inj hrest).2
    obtain ⟨hne, hword⟩ := word_of_mem_colours (cols := cols) (i := i) (by simp [← htail])
    exact .inr fun u => no_step_idle h.bench hidle hport hne hword

theorem reaches_eq_of_no_step (hno : ∀ u, step s ≠ .next u) (h : Reaches s k t) : t = s := by
  cases k with
  | zero => cases h; rfl
  | succ k =>
    obtain ⟨u, hu, -⟩ := reaches_succ_iff.1 h
    exact absurd hu (hno u)

/-- Settles O45: the slot of byte `k` fails and the others before it are done; after it only a later START
is taken, as the tokens left over are refused. -/
theorem frameAborts : Obligations.FrameAborts := by
  unfold Obligations.FrameAborts
  intro s cols ns ds n e ws as rs hs hp ht hsends hrecvs hds hlt hd
  have hsplit := List.take_append_drop ns.length (frameBytes Config.idleHigh cols)
  rw [List.drop_eq_getElem_cons hlt] at hsplit
  have hlen : ns.length = ((frameBytes Config.idleHigh cols).take ns.length).length := by
    rw [List.length_take]; omega
  obtain ⟨events, hshows, hslots⟩ := byteSlots_fails (as := as) (rs := rs) _ n e hlen
    (hds.trans hlen) hd
  rw [hsplit, ← hsends, ← hrecvs] at hslots
  rw [List.take_append_getElem, ← hlen] at hshows
  obtain ⟨k, t, evs, h, hidle, hport, hprefix, -, herr⟩ := carries_frame hs hp ht hslots.symm nofun
  have hattempts : attempts evs = events := h.attempts
  rw [← hattempts] at hshows
  have hshows := hshows.of_attempts
  have hoffered : offeredBytes evs ≠ [] := by
    rw [hshows.offered]
    exact List.ne_nil_of_length_pos (by rw [List.length_take]; omega)
  have hafter := all_taken_or_no_step h hs hp hidle hport hprefix hoffered
  refine ⟨k, t, evs, h.reaches, hidle, herr e rfl, h.sendScript, h.recvScript, h.trace, hshows.offered,
    hshows.sent, hshows.drains, h.order, hprefix, fun u hu => ?_, fun j u hu => ?_⟩
  · exact ⟨attempts_step_idle h.bench hidle hu, hafter.resolve_right fun hno => hno u hu⟩
  · rcases hafter with hall | hno
    · exact (trace_of_reaches_idle h.bench hidle hu).imp_right fun hlater => ⟨hall, hlater⟩
    · exact .inl (congrArg State.trace (reaches_eq_of_no_step hno hu))

end Sys2Proof.Machine
end

section
/-! PROOFS of what holds at every moment of a write, whatever the transport answers (R138, R140, R143, R144):
every step goes on with what is ahead or breaks the write off. -/

namespace Sys2Proof.Machine

variable {s t u v r : State} {i : Instr} {is js : List Instr} {bs rem : List Byte}
  {base evs : List Event} {e : Event} {k : Nat}

/-! ### Where a write stands -/

/-- What is ahead of `t`, at a send, at a drain or at rest: the tokens `is` and the byte slots of `bs`, the
slot already begun left out, lead to `v`. -/
inductive Ahead (t : State) (is : List Instr) (bs : List Byte) (v : State) : Prop
  | next {r : State} (hsame : SameBlock r t) (hplan : Plan r is bs v)
  | drain {r : State} (hsend : t.sending = true) (hio : t.io = .recv)
      (hsame : SameBlock r (advance t)) (hplan : Plan r is bs v)

/-- Since the record was `base`, the events `evs` were observed in `t`, and of the tokens `is` those of `js`
are left. -/
structure Observed (base : List Event) (is : List Instr) (t : State) (evs : List Event)
    (js : List Instr) : Prop where
  bench : t.symPort = none
  trace : t.trace = base ++ evs
  tokens : acceptedTokens evs ++ js = is
  tokenPort : t.tokenPort = tokenWords js

/-- A write of the tokens `is` and the bytes `bs`, which leads to `v`: it goes on, or a send has failed. -/
inductive Progress (base : List Event) (is : List Instr) (bs : List Byte) (v t : State) : Prop
  | going {evs : List Event} {js : List Instr} {rem : List Byte} (hobs : Observed base is t evs js)
      (hno : .start ∉ js) (hahead : Ahead t js rem v) (hoffered : offeredBytes evs = sentBytes evs)
      (hsent : sentBytes evs ++ rem = bs)
  | broken {evs : List Event} {js : List Instr} (hobs : Observed base is t evs js) (hno : .start ∉ js)
      (hidle : t.phase = .idle) (herr : ∃ e, t.status = .err e) (hoffered : offeredBytes evs <+: bs)

theorem observed_refl (hs : s.symPort = none) (ht : s.tokenPort = tokenWords is) :
    Observed s.trace is s [] is :=
  ⟨hs, (List.append_nil _).symm, rfl, ht⟩

/-- One more attempt. -/
theorem Observed.attempt (h : Observed base is t evs js) (he : e.token = none)
    (hbench : u.symPort = t.symPort) (htrace : u.trace = t.trace ++ [e])
    (hport : u.tokenPort = t.tokenPort) : Observed base is u (evs ++ [e]) js where
  bench := hbench.trans h.bench
  trace := by rw [htrace, h.trace, List.append_assoc]
  tokens := by
    rw [acceptedTokens_append, ← h.tokens]
    simp [acceptedTokens, he]
  tokenPort := hport.trans h.tokenPort

/-! ### A word on the port is a token's -/

theorem decodeToken_of_encodeToken {w : Token} (h : encodeToken i = some w) : decodeToken w = .ok i := by
  have hencode : encode i = .token w := by
    unfold encodeToken at h
    split at h
    · cases h; assumption
    · cases h
    · cases h
  have hdecode := decode_encode i
  rwa [hencode] at hdecode

theorem mem_of_mem_tokenWords {w : Token} (hw : w ∈ tokenWords is) (hd : decodeToken w = .ok i) :
    i ∈ is := by
  obtain ⟨j, hj, hwj⟩ := List.mem_filterMap.1 hw
  cases (decodeToken_of_encodeToken hwj).symm.trans hd
  exact hj

/-! ### Every step goes on or breaks off -/

/-- A token is taken as planned. -/
theorem progress_token (hobs : Observed base is t evs (i :: js)) (hno : .start ∉ js)
    (htakes : Takes i r s) (hsame : SameBlock r t) (hplan : Plan s js rem v)
    (hoffered : offeredBytes evs = sentBytes evs) (hsent : sentBytes evs ++ rem = bs)
    (hstep : step t = .next u) : Progress base is bs v u := by
  have hport : t.tokenPort = tokenWords (i :: js) ++ [] :=
    hobs.tokenPort.trans (List.append_nil _).symm
  obtain ⟨t', htaken, hregs, hrest⟩ := htakes.carries hsame hobs.bench hport .done
  obtain ⟨u', hu', hzero⟩ := reaches_succ_iff.1 htaken.reaches
  cases hzero
  cases hstep.symm.trans hu'
  refine .going (evs := evs ++ [.accept i]) (js := js) ?_ hno (.next hregs hplan) ?_ ?_
  · exact {
      bench := htaken.bench
      trace := by rw [htaken.trace, hobs.trace, List.append_assoc]
      tokens := by
        rw [acceptedTokens_append, List.append_assoc]
        exact hobs.tokens
      tokenPort := hrest.trans (List.append_nil _) }
  · rw [offeredBytes_append, sentBytes_append, hoffered]; rfl
  · rw [sentBytes_append, List.append_assoc]; exact hsent

/-- The byte that is next is offered. -/
theorem progress_send {b : Byte} (hobs : Observed base is t evs js) (hno : .start ∉ js)
    (hsame : SameBlock r t) (hio : r.io = .send) (hout : r.out = some b)
    (hplan : Plan (advance { r with io := .recv }) js rem v)
    (hoffered : offeredBytes evs = sentBytes evs) (hsent : sentBytes evs ++ b :: rem = bs) :
    Progress base is bs v (sendAttempt b t) := by
  obtain ⟨hport, htrace, hbench, -⟩ := sendAttempt_ports b t
  have hnext := hobs.attempt rfl hbench htrace hport
  have hout' := hsame.out_eq.trans hout
  rcases sendAttempt_cases b t with ⟨ha, heq⟩ | ⟨ha, heq⟩ | ⟨e, ha, heq⟩ <;> rw [heq, ha] at hnext <;>
    rw [heq]
  · refine .going hnext hno (.next (hsame.trans (sameBlock_afterSend b t)) (.slot hio hout hplan)) ?_ ?_
    · rw [offeredBytes_append, sentBytes_append, hoffered]; rfl
    · rw [sentBytes_append, List.append_assoc]; exact hsent
  · have hdrain : SameBlock { r with io := .recv } { t.afterSend b with io := .recv } :=
      { hsame.trans (sameBlock_afterSend b t) with io := rfl }
    refine .going hnext hno (.drain ((sending_iff_out _).2 ⟨b, hout'⟩) rfl hdrain.advance hplan) ?_ ?_
    · rw [offeredBytes_append, sentBytes_append, hoffered]; rfl
    · rw [sentBytes_append, List.append_assoc]; exact hsent
  · refine .broken hnext hno rfl ⟨e, rfl⟩ ⟨rem, ?_⟩
    rw [offeredBytes_append, hoffered, List.append_assoc]
    exact hsent

/-- The drain that is outstanding is attempted. -/
theorem progress_recv (hobs : Observed base is t evs js) (hno : .start ∉ js)
    (hsend : t.sending = true) (hio : t.io = .recv) (hsame : SameBlock r (advance t))
    (hplan : Plan r js rem v) (hoffered : offeredBytes evs = sentBytes evs)
    (hsent : sentBytes evs ++ rem = bs) : Progress base is bs v (recvAttempt t) := by
  obtain ⟨hport, htrace, hbench, -⟩ := recvAttempt_ports t
  have hadvance := hsame.trans (sameBlock_afterRecv t).advance
  have hahead : Ahead (recvAttempt t) js rem v := by
    by_cases ha : t.recvAnswer = .wouldBlock
    · rw [recvAttempt_wouldBlock ha]
      exact .drain hsend hio hadvance hplan
    · rw [recvAttempt_other ha]
      exact .next hadvance hplan
  refine .going (hobs.attempt rfl hbench htrace hport) hno hahead ?_ ?_
  · rw [offeredBytes_append, sentBytes_append, hoffered]; rfl
  · rw [sentBytes_append, List.append_assoc]; exact hsent

/-- Whatever is answered, a write stays on its plan or is broken off, and then only holds. -/
theorem Progress.step (hv : v.tokenReady = true) (h : Progress base is bs v t)
    (hstep : step t = .next u) : Progress base is bs v u := by
  cases h with
  | broken hobs hno hidle herr hoffered =>
    rcases step_idle_cases hobs.bench hidle hstep with ⟨-, rfl⟩ | ⟨w, ws, hport, hd, -⟩
    · exact .broken hobs hno hidle herr hoffered
    · exact absurd (mem_of_mem_tokenWords (by rw [← hobs.tokenPort, hport]; exact .head _) hd) hno
  | going hobs hno hahead hoffered hsent =>
    cases hahead with
    | drain hsend hio hsame hplan =>
      rw [step_recv hobs.bench hio hsend] at hstep
      cases hstep
      exact progress_recv hobs hno hsend hio hsame hplan hoffered hsent
    | next hsame hplan =>
      cases hplan with
      | nil =>
        have hready : t.tokenReady = true :=
          (out_none_iff t).1 (hsame.out_eq.trans ((out_none_iff v).2 hv))
        rw [step_hold hobs.bench hready hobs.tokenPort] at hstep
        cases hstep
        exact .going hobs hno (.next hsame (.nil v)) hoffered hsent
      | slot hio hout hrest =>
        rw [step_send hobs.bench (hsame.io.trans hio) (hsame.out_eq.trans hout)] at hstep
        cases hstep
        exact progress_send hobs hno hsame hio hout hrest hoffered hsent
      | token htakes hrest =>
        exact progress_token hobs (fun hmem => hno (.tail _ hmem)) htakes hsame hrest hoffered hsent
          hstep

/-- From its START on, every state of a write meets `Progress`. -/
theorem progress_of_reaches (hv : v.tokenReady = true) (hs : s.symPort = none) (hp : s.phase = .idle)
    (ht : s.tokenPort = tokenWords (.start :: is)) (hno : .start ∉ is)
    (hplan : Plan s (.start :: is) bs v) (hk : 0 < k) (h : Reaches s k t) :
    Progress s.trace (.start :: is) bs v t := by
  obtain ⟨k, rfl⟩ := Nat.exists_eq_succ_of_ne_zero hk.ne'
  obtain ⟨u, hu, hrest⟩ := reaches_succ_iff.1 h
  refine reaches_invariant (fun _ _ => Progress.step hv) ?_ hrest
  cases hplan with
  | slot hio hout => simp [State.out, hp] at hout
  | token htakes hplan =>
    exact progress_token (observed_refl hs ht) hno htakes (.refl s) hplan rfl rfl hu

/-! ### At every moment (R140, R144) -/

theorem Progress.observed (h : Progress base is bs v t) :
    ∃ evs, t.trace = base ++ evs ∧ offeredBytes evs <+: bs ∧ acceptedTokens evs <+: is := by
  cases h with
  | going hobs hno hahead hoffered hsent =>
    exact ⟨_, hobs.trace, ⟨_, by rw [hoffered]; exact hsent⟩, ⟨_, hobs.tokens⟩⟩
  | broken hobs hno hidle herr hoffered => exact ⟨_, hobs.trace, hoffered, ⟨_, hobs.tokens⟩⟩

/-- In IDLE with nothing but a START that could be taken, and none left, nothing is ahead. -/
theorem Ahead.eq_nil_of_idle (h : Ahead t is bs v) (hp : t.phase = .idle) (hno : .start ∉ is) :
    bs = [] := by
  cases h with
  | drain hsend => simp [State.sending, hp] at hsend
  | next hsame hplan =>
    have hp' := hsame.phase.symm.trans hp
    cases hplan with
    | nil => rfl
    | slot hio hout => simp [State.out, hp'] at hout
    | token htakes =>
      cases htakes with
      | start => exact absurd (.head _) hno
      | color hwait | finish hwait => cases hp'.symm.trans hwait

/-- A write that stands in IDLE with OK has sent all its bytes (R138). -/
theorem Progress.sent_of_ok (h : Progress base is bs v t) (hp : t.phase = .idle)
    (hok : t.status = .ok) (htrace : t.trace = base ++ evs) : sentBytes evs = bs := by
  cases h with
  | broken hobs hno hidle herr =>
    obtain ⟨e, herr⟩ := herr
    cases hok.symm.trans herr
  | going hobs hno hahead hoffered hsent =>
    obtain rfl := List.append_cancel_left (hobs.trace.symm.trans htrace)
    rw [hahead.eq_nil_of_idle hp hno, List.append_nil] at hsent
    exact hsent

theorem start_notMem_colours (cols : List Colour) :
    Instr.start ∉ cols.map (fun c => Instr.color c.1 c.2.1 c.2.2) := by simp

/-- Settles O46: before the START nothing is observed, and from it on the write makes progress. -/
theorem offeredIsFramePrefix : Obligations.OfferedIsFramePrefix := by
  unfold Obligations.OfferedIsFramePrefix
  intro s t cols k hs hp ht h
  rcases Nat.eq_zero_or_pos k with rfl | hk
  · cases h
    exact ⟨[], (List.append_nil _).symm, List.nil_prefix, List.nil_prefix, nofun⟩
  · obtain ⟨v, hplan, hidle, -⟩ := plan_frame cols hp
    have hno : Instr.start ∉ cols.map (fun c => Instr.color c.1 c.2.1 c.2.2) ++ [.finish] := by
      simp [start_notMem_colours]
    have hprogress := progress_of_reaches (tokenReady_idle hidle) hs hp ht hno hplan hk h
    obtain ⟨evs, htrace, hoffered, htokens⟩ := hprogress.observed
    exact ⟨evs, htrace, hoffered, htokens, fun _ hp hok => hprogress.sent_of_ok hp hok htrace⟩

/-! ### Without an END (R143) -/

/-- From the trailer the block only goes to IDLE. -/
theorem advance_trailer (hp : s.phase = .flush) :
    (advance s).phase = .flush ∨ (advance s).phase = .idle := by
  rw [advance_flush hp]
  rcases flushAdvance_cases s with ⟨-, h⟩ | ⟨-, h⟩ <;> rw [h]
  · exact .inr rfl
  · exact .inl hp

/-- What is ahead of the trailer or of IDLE, with no START, ends there. -/
theorem Plan.trailer (h : Plan s is bs t) (hno : .start ∉ is)
    (hp : s.phase = .flush ∨ s.phase = .idle) : t.phase = .flush ∨ t.phase = .idle := by
  induction h with
  | nil => exact hp
  | slot hio hout _ ih =>
    rcases hp with hp | hp
    · exact ih hno (advance_trailer hp)
    · simp [State.out, hp] at hout
  | token htakes =>
    cases htakes with
    | start => exact absurd (.head _) hno
    | color hwait | finish hwait => simp [hwait] at hp

theorem Ahead.trailer (h : Ahead t is bs v) (hno : .start ∉ is)
    (hp : t.phase = .flush ∨ t.phase = .idle) : v.phase = .flush ∨ v.phase = .idle := by
  cases h with
  | next hsame hplan =>
    rw [hsame.phase] at hp
    exact hplan.trailer hno hp
  | drain hsend _ hsame hplan =>
    rcases hp with hp | hp
    · have hnext := advance_trailer hp
      rw [hsame.phase] at hnext
      exact hplan.trailer hno hnext
    · simp [State.sending, hp] at hsend

/-- Outside IDLE the status is BUSY, kept by every step (R31). -/
theorem step_busy (hs : s.symPort = none) (h : s.phase ≠ .idle → s.status = .busy)
    (hstep : step s = .next t) (hp : t.phase ≠ .idle) : t.status = .busy := by
  by_cases hsame : t.status = s.status
  · by_cases hidle : s.phase = .idle
    · rcases step_idle_cases hs hidle hstep with ⟨-, rfl⟩ | ⟨w, ws, -, -, rfl⟩
      · exact absurd hidle hp
      · exact startWrite_status _ _
    · exact hsame.trans (h hidle)
  · rcases statusChanges s t hstep hsame with ⟨-, hbusy, -⟩ | ⟨-, hidle, -⟩ | ⟨_, _, hidle, -⟩
    · exact hbusy
    · exact absurd hidle hp
    · exact absurd hidle hp

theorem busy_of_reaches_idle (hs : s.symPort = none) (hp : s.phase = .idle) (h : Reaches s k t)
    (hp' : t.phase ≠ .idle) : t.status = .busy :=
  (reaches_invariant (P := fun t => t.symPort = none ∧ (t.phase ≠ .idle → t.status = .busy))
    (fun _ _ ⟨hbench, hbusy⟩ hstep => ⟨step_symPort hbench hstep, step_busy hbench hbusy hstep⟩)
    ⟨hs, absurd hp⟩ h).2 hp'

/-- A write with no END to come leads to WAIT. -/
theorem plan_openFrame (cols : List Colour) (hp : s.phase = .idle) :
    ∃ t, Plan s (openFrame cols) (preFlush Config.idleHigh ++ cols.flatMap encodeColour) t ∧
      t.phase = .wait := by
  have h := plan_openFrame_then (is := []) (bs := []) (P := fun t => t.phase = .wait)
    (fun u hu => ⟨u, .nil u, hu⟩) cols hp
  rwa [List.append_nil, List.append_nil] at h

/-- Settles O47: what is ahead leads to WAIT, so neither the trailer nor IDLE is reached on the way. -/
theorem endlessFrame : Obligations.EndlessFrame := by
  unfold Obligations.EndlessFrame
  intro s t cols k hs hp ht h hk
  obtain ⟨v, hplan, hwait⟩ := plan_openFrame cols hp
  have hprogress := progress_of_reaches (tokenReady_wait hwait) hs hp ht
    (start_notMem_colours cols) hplan hk h
  obtain ⟨evs, htrace, hoffered, -⟩ := hprogress.observed
  cases hprogress with
  | broken hobs hno hidle herr =>
    exact ⟨by simp [hidle], .inr herr, evs, htrace, hoffered⟩
  | going hobs hno hahead =>
    have hphase : ¬(t.phase = .flush ∨ t.phase = .idle) := by
      intro hover
      have hend := hahead.trailer hno hover
      simp [hwait] at hend
    obtain ⟨hflush, hidle⟩ := not_or.1 hphase
    exact ⟨hflush, .inl (busy_of_reaches_idle hs hp h hidle), evs, htrace, hoffered⟩

end Sys2Proof.Machine
end

section
/-! PROOFS of how a write ends (R174, R178): aborted by a send that fails, or completed by the drain that is
the trailer's last (R138). -/

namespace Sys2Proof.Machine

variable {s t : State}

/-! ### The abort (R174, R177) -/

/-- Settles O27: the failing send is the step, and it leaves an IDLE state with an empty bench port. -/
theorem abortOnSendError : Obligations.AbortOnSendError := by
  unfold Obligations.AbortOnSendError
  intro s b e hs hio hout ha
  have hstep : step s = .next { s.afterSend b with status := .err e, phase := .idle } :=
    (step_send hs hio hout).trans (congrArg _ (sendAttempt_err b ha))
  have htrace : (s.afterSend b).trace = s.trace ++ [.send b (.err e)] := by rw [afterSend_trace, ha]
  exact ⟨_, hstep, { sameBlock_afterSend b s with status := rfl, phase := rfl }, rfl, rfl, htrace,
    fun _ hu => attempts_step_idle hs rfl hu, fun _ _ hu => trace_of_reaches_idle hs rfl hu⟩

/-! ### The steps that lead to IDLE (R138, R174, R178) -/

/-- A send attempt ends a write only where it fails. -/
theorem sendAttempt_idle {b : Byte} (hp : s.phase ≠ .idle) (hidle : (sendAttempt b s).phase = .idle) :
    ∃ e, (sendAttempt b s).status = .err e ∧ s.sendAnswer = .err e := by
  rcases sendAttempt_cases b s with ⟨-, h⟩ | ⟨-, h⟩ | ⟨e, ha, h⟩
  · rw [h] at hidle; exact absurd hidle hp
  · rw [h] at hidle; exact absurd hidle hp
  · exact ⟨e, by rw [h], ha⟩

/-- ENC-ADVANCE stays in ENC or goes to WAIT (R102). -/
theorem encAdvance_phase (hp : s.phase = .enc) :
    (encAdvance s).phase = .enc ∨ (encAdvance s).phase = .wait := by
  rcases encAdvance_cases s with ⟨-, h⟩ | ⟨-, -, h⟩ | ⟨-, -, -, h⟩ | ⟨-, -, -, h⟩ <;> rw [h]
  · exact .inl hp
  · exact .inl hp
  · exact .inl hp
  · exact .inr rfl

/-- PreAdvance stays in PREFLUSH or goes to WAIT (R133). -/
theorem preAdvance_phase (hp : s.phase = .preflush) :
    (preAdvance s).phase = .preflush ∨ (preAdvance s).phase = .wait := by
  rcases preAdvance_cases s with ⟨-, h⟩ | ⟨-, h⟩ <;> rw [h]
  · exact .inr rfl
  · exact .inl hp

/-- FlushAdvance leaves the trailer only after its 20th slot, and then with OK (R137, R138). -/
theorem flushAdvance_idle (hp : s.phase = .flush) (hidle : (flushAdvance s).phase = .idle) :
    (flushAdvance s).status = .ok ∧ s.fcnt = 19 := by
  rcases flushAdvance_cases s with ⟨hlast, h⟩ | ⟨-, h⟩
  · have hfcnt : s.fcnt.toNat = 19 := Nat.succ.inj hlast
    exact ⟨by rw [h], BitVec.eq_of_toNat_eq hfcnt⟩
  · rw [h] at hidle; cases hp.symm.trans hidle

/-- An advance ends a write only as the last of the trailer. -/
theorem advance_idle (hp : s.phase ≠ .idle) (hidle : (advance s).phase = .idle) :
    (advance s).status = .ok ∧ s.phase = .flush ∧ s.fcnt = 19 := by
  cases hphase : s.phase with
  | idle => exact absurd hphase hp
  | wait => simp only [advance, hphase] at hidle; cases hidle
  | enc =>
    rw [advance_enc hphase] at hidle
    rcases encAdvance_phase hphase with h | h <;> cases hidle.symm.trans h
  | preflush =>
    rw [advance_preflush hphase] at hidle
    rcases preAdvance_phase hphase with h | h <;> cases hidle.symm.trans h
  | flush =>
    rw [advance_flush hphase] at hidle ⊢
    obtain ⟨hok, hfcnt⟩ := flushAdvance_idle hphase hidle
    exact ⟨hok, rfl, hfcnt⟩

/-- A receive attempt ends a write only as the last drain of the trailer. -/
theorem recvAttempt_idle (hp : s.phase ≠ .idle) (hidle : (recvAttempt s).phase = .idle) :
    (recvAttempt s).status = .ok ∧ s.phase = .flush ∧ s.fcnt = 19 ∧ s.recvAnswer ≠ .wouldBlock := by
  by_cases ha : s.recvAnswer = .wouldBlock
  · rw [recvAttempt_wouldBlock ha] at hidle
    exact absurd hidle hp
  · rw [recvAttempt_other ha] at hidle ⊢
    obtain ⟨hok, hflush, hfcnt⟩ := advance_idle (s := s.afterRecv) hp hidle
    exact ⟨hok, hflush, hfcnt, ha⟩

/-- Settles O33: of all a step can do outside IDLE, no token leads there, a send does where it fails and a
drain where it is the trailer's last. -/
theorem writeEndings : Obligations.WriteEndings := by
  unfold Obligations.WriteEndings
  intro s t hs hp hstep hidle
  rcases step_cases hs hstep with ⟨-, -, rfl⟩ | ⟨_, _, hstart, -⟩ | ⟨_, _, _, _, _, -, -, -, rfl⟩ |
    ⟨_, _, -, -, -, rfl⟩ | ⟨b, -, hio, -, rfl⟩ | ⟨-, hio, rfl⟩
  · exact absurd hidle hp
  · exact absurd hstart hp
  · cases hidle
  · cases hidle
  · obtain ⟨e, herr, ha⟩ := sendAttempt_idle hp hidle
    exact .inr ⟨e, herr, hio, ha⟩
  · obtain ⟨hok, hflush, hfcnt, ha⟩ := recvAttempt_idle hp hidle
    exact .inl ⟨hok, hflush, hio, hfcnt, ha⟩

end Sys2Proof.Machine
end

section
/-! PROOFS of what follows from IDLE: nothing is observed before a START (R191), and a write whose tokens are
all on the port is never kept waiting for one (R203). -/

namespace Sys2Proof.Machine

/-- Settles O36: a run from IDLE holds until a START is taken. -/
theorem nothingBeforeStart : Obligations.NothingBeforeStart := by
  unfold Obligations.NothingBeforeStart
  intro s t k hs hp h
  exact trace_of_reaches_idle hs hp h

variable {s t u v : State} {is : List Instr} {bs : List Byte}

/-- A token that can be taken is a word on the port. -/
theorem Takes.tokenWords_ne_nil {i : Instr} (h : Takes i s u) : tokenWords (i :: is) ≠ [] := by
  obtain ⟨w, hw, -⟩ := h.word
  rw [tokenWords, List.filterMap_cons_some hw]
  exact List.cons_ne_nil _ _

/-- Where WAIT is reached on the way to another phase, a token is still to come. -/
theorem Ahead.tokenWords_ne_nil_of_wait (h : Ahead t is bs v) (hp : t.phase = .wait)
    (hv : v.phase ≠ .wait) : tokenWords is ≠ [] := by
  cases h with
  | drain hsend => simp [State.sending, hp] at hsend
  | next hsame hplan =>
    have hp' := hsame.phase.symm.trans hp
    cases hplan with
    | nil => exact absurd hp' hv
    | slot hio hout => simp [State.out, hp'] at hout
    | token htakes => exact htakes.tokenWords_ne_nil

/-- Settles O51: what is ahead leads to IDLE, so WAIT is left by a token that is still on the port. -/
theorem wholeWriteIsHostLive : Obligations.WholeWriteIsHostLive := by
  unfold Obligations.WholeWriteIsHostLive
  intro s cols hs hp ht k t h hwait
  rcases Nat.eq_zero_or_pos k with rfl | hk
  · cases h
    cases hp.symm.trans hwait
  · obtain ⟨v, hplan, hidle, -⟩ := plan_frame cols hp
    have hno : Instr.start ∉ cols.map (fun c => Instr.color c.1 c.2.1 c.2.2) ++ [.finish] :=
      fun hmem => (word_of_mem_colours hmem).1 rfl
    cases progress_of_reaches (tokenReady_idle hidle) hs hp ht hno hplan hk h with
    | broken hobs hno hidle => cases hidle.symm.trans hwait
    | going hobs hno hahead =>
      rw [hobs.tokenPort]
      exact hahead.tokenWords_ne_nil_of_wait hwait (hidle.trans_ne nofun)

end Sys2Proof.Machine
end

section
/-! PROOFS of how long the data line is low at the end of a frame, and of the durations on it at a clock of
`f` MHz (R106, R201, R202). -/

namespace Sys2Proof.Machine

/-! ### Low bits at the end (R202) -/

/-- Low bits at the end add to those before them. -/
theorem length_takeWhile_low_append (bits : List Bool) (n : Nat) :
    ((bits ++ List.replicate n false).reverse.takeWhile (!·)).length =
      n + (bits.reverse.takeWhile (!·)).length := by
  rw [List.reverse_append, List.reverse_replicate,
    List.takeWhile_append_of_pos (by simp), List.length_append, List.length_replicate]

/-- A symbol ends with its low part, after a high bit (R77). -/
theorem length_takeWhile_low_symbolWire (bits : List Bool) (bit : Bool) :
    ((bits ++ symbolWire bit).reverse.takeWhile (!·)).length = lowCycles bit := by
  have hhigh : ∀ n, 0 < n → ((bits ++ List.replicate n true).reverse.takeWhile (!·)).length = 0 := by
    intro n hn
    obtain ⟨n, rfl⟩ := Nat.exists_eq_succ_of_ne_zero hn.ne'
    simp [List.replicate_succ']
  rw [symbolWire, ← List.append_assoc, length_takeWhile_low_append, hhigh _ (by cases bit <;> decide),
    Nat.add_zero]

theorem wireStream_flushRun : wireStream flushRun = List.replicate 160 false := by decide

/-- A flush run adds its 160 bits, all low. -/
theorem trailingLow_append_flushRun (bs : List Byte) :
    trailingLow (bs ++ flushRun) = 160 + trailingLow bs := by
  rw [trailingLow, wireStream_append, wireStream_flushRun, length_takeWhile_low_append, trailingLow]

/-- After a channel value the low bits are those of the symbol of its bit 0, the last one sent. -/
theorem trailingLow_append_encodeChannel (bs : List Byte) (v : Byte) :
    trailingLow (bs ++ encodeChannel v) = lowCycles (v.getLsbD 0) := by
  have hlast : ∃ front, wireStream (encodeChannel v) = front ++ symbolWire (v.getLsbD 0) := by
    rw [wireStream_encodeChannel]
    exact ⟨([7, 6, 5, 4, 3, 2, 1].map v.getLsbD).flatMap symbolWire, by simp [wireBits]⟩
  obtain ⟨front, hfront⟩ := hlast
  rw [trailingLow, wireStream_append, hfront, ← List.append_assoc, length_takeWhile_low_symbolWire]

theorem trailingLow_preFlush (idleHigh : Bool) :
    trailingLow (preFlush idleHigh) = if idleHigh then 160 else 0 := by
  cases idleHigh with
  | false => rfl
  | true => exact trailingLow_append_flushRun []

/-- Settles O53: the trailer is the end of the frame, and before it stands the pre-frame flush or blue. -/
theorem trailerLowBits : Obligations.TrailerLowBits := by
  unfold Obligations.TrailerLowBits
  constructor
  · intro idleHigh
    rw [frameBytes, List.flatMap_nil, List.nil_append, trailingLow_append_flushRun, trailingLow_preFlush]
    cases idleHigh <;> rfl
  · intro idleHigh cols r g b
    have hframe : frameBytes idleHigh (cols ++ [(r, g, b)]) =
        (preFlush idleHigh ++ (cols.flatMap encodeColour ++ (encodeChannel r ++ encodeChannel g))) ++
          encodeChannel b ++ flushRun := by
      simp [frameBytes, encodeColour]
    rw [hframe, trailingLow_append_flushRun, trailingLow_append_encodeChannel]

/-! ### Durations (R201, R202) -/

/-- A byte is eight bits on the line. -/
theorem length_wireStream (bs : List Byte) : (wireStream bs).length = 8 * bs.length := by
  induction bs with
  | nil => rfl
  | cons b bs ih =>
    have hb : (wireBits b).length = 8 := rfl
    rw [wireStream, List.flatMap_cons, List.length_append, hb, ← wireStream, ih, List.length_cons]
    omega

theorem wireTime_eq (bs : List Byte) (f : ℚ) : wireTime bs f = (8 * bs.length : ℕ) * bitTime f := by
  rw [wireTime, length_wireStream]

theorem bitTime_mul_clock {f : ℚ} (hf : f ≠ 0) : bitTime f * f = 1000 := div_mul_cancel₀ 1000 hf

/-- One symbol in each period. -/
theorem symbolRate_mul_symbolPeriod {f : ℚ} (hf : f ≠ 0) : symbolRate f * symbolPeriod f = 1000000 := by
  calc symbolRate f * symbolPeriod f = 1000 * (bitTime f * f) := by rw [symbolRate, symbolPeriod]; ring
    _ = 1000000 := by rw [bitTime_mul_clock hf]; norm_num

/-- A symbol is four bits on the line (R77, R106). -/
theorem highCycles_add_lowCycles (bit : Bool) : highCycles bit + lowCycles bit = 4 := by
  cases bit <;> rfl

/-- Settles O54: every duration is a number of bit times. -/
theorem symbolTimes : Obligations.SymbolTimes := by
  unfold Obligations.SymbolTimes
  intro f bit c hf
  refine ⟨bitTime_mul_clock hf, rfl, by rw [symbolRate]; ring, symbolRate_mul_symbolPeriod hf, ?_, ?_, ?_,
    ?_, ?_, ?_, ?_⟩
  · rw [highTime, lowTime, symbolPeriod, ← add_mul, ← Nat.cast_add, highCycles_add_lowCycles]
    norm_num
  · simp [highTime, highCycles]
  · simp [lowTime, lowCycles]
  · simp [highTime, highCycles]
  · simp [lowTime, lowCycles]
  · have hlength : (encodeColour c).length = 12 := rfl
    rw [wireTime_eq, hlength]; norm_num
  · rw [wireTime_eq, length_flushRun]; norm_num

end Sys2Proof.Machine
end

section
/-! PROOFS that a write ends under a live transport (R203): every token taken and every attempt answered
uses up some of the work that is left, and with the rest of the write on the port another one always comes. -/

namespace Sys2Proof.Machine

variable {s t u : State} {k : Nat} {ws : List Token}

/-! ### Work left and progress made -/

/-- The position in the 12 bytes of a colour, by channel, group and byte (R102). -/
def State.encPosition (s : State) : Nat := 4 * s.cidx.toNat + 2 * s.half.toNat + s.bsel.toNat

/-- The byte slots up to the end of the phase, the one under way included (R102, R133, R137). -/
def State.slotsLeft (s : State) : Nat :=
  match s.phase with
  | .enc => 12 - s.encPosition
  | .preflush | .flush => Config.flushLen - s.fcnt.toNat
  | .idle | .wait => 0

/-- Two attempts a slot; the first of them is still to come where `IO = SEND`. -/
def State.attemptsLeft (s : State) : Nat := 2 * s.slotsLeft + if s.io = .send then 1 else 0

/-- The attempts of this phase, and for each word on the port more than a phase can have. -/
def State.work (s : State) : Nat := 42 * s.tokenPort.length + s.attemptsLeft

/-- A token taken, or an attempt answered otherwise than `WouldBlock`. -/
def Event.isProgress (e : Event) : Bool := e.token.isSome || e.offered.isSome || e.isDrain

/-- How much progress a trace records. -/
def progressCount (evs : List Event) : Nat := evs.countP Event.isProgress

/-- The progress made and the work left. -/
def State.potential (s : State) : Nat := progressCount s.trace + s.work

theorem progressCount_append (evs evs' : List Event) :
    progressCount (evs ++ evs') = progressCount evs + progressCount evs' := List.countP_append

theorem progressCount_concat (evs : List Event) (e : Event) :
    progressCount (evs ++ [e]) = progressCount evs + if e.isProgress then 1 else 0 := by
  rw [progressCount_append]
  simp [progressCount]

theorem slotsLeft_le (s : State) : s.slotsLeft ≤ 20 := by
  simp only [State.slotsLeft, Config.flushLen]
  split <;> omega

theorem attemptsLeft_lt (s : State) : s.attemptsLeft < 42 := by
  have := slotsLeft_le s
  simp only [State.attemptsLeft]
  split <;> omega

/-! ### The potential never grows -/

/-- The slots left of a flush run. -/
theorem slotsLeft_flushing (hp : s.phase = .preflush ∨ s.phase = .flush) :
    s.slotsLeft = 20 - s.fcnt.toNat := by
  rcases hp with hp | hp <;> simp only [State.slotsLeft, hp, Config.flushLen]

theorem slotsLeft_enc (hp : s.phase = .enc) : s.slotsLeft = 12 - s.encPosition := by
  simp only [State.slotsLeft, hp]

theorem slotsLeft_tokenReady (hp : s.phase = .idle ∨ s.phase = .wait) : s.slotsLeft = 0 := by
  rcases hp with hp | hp <;> simp only [State.slotsLeft, hp]

/-- ENC-ADVANCE moves the position on, or the colour is over (R102). -/
theorem encAdvance_position (hp : s.phase = .enc) :
    ((encAdvance s).phase = .enc ∧ s.encPosition < (encAdvance s).encPosition) ∨
      (encAdvance s).phase = .wait := by
  rcases encAdvance_cases s with ⟨hb, heq⟩ | ⟨hb, hh, heq⟩ | ⟨hb, hh, hlt, heq⟩ | ⟨-, -, -, heq⟩ <;> rw [heq]
  · exact .inl ⟨hp, by simp [State.encPosition, hb]⟩
  · exact .inl ⟨hp, by simp [State.encPosition, hb, hh]⟩
  · have hnext : (s.cidx + 1).toNat = s.cidx.toNat + 1 := by bv_omega
    have hold : s.encPosition = 4 * s.cidx.toNat + 3 := by simp [State.encPosition, hh, hb]
    have hnew : (loadChannel (s.cidx + 1) s.rgb s).encPosition = 4 * (s.cidx + 1).toNat := rfl
    exact .inl ⟨hp, by omega⟩
  · exact .inr rfl

theorem State.Inv.slotsLeft_encAdvance (h : s.Inv) (hp : s.phase = .enc) :
    (Machine.encAdvance s).slotsLeft < s.slotsLeft := by
  have hbound : s.encPosition < 12 := by
    have hcidx := h.cidx
    simp only [State.encPosition]
    omega
  rw [slotsLeft_enc hp]
  rcases encAdvance_position hp with ⟨hp', hmoved⟩ | hwait
  · rw [slotsLeft_enc hp']; omega
  · rw [slotsLeft_tokenReady (.inr hwait)]; omega

/-- In a flush run the count goes up, or the run is over (R133, R137). -/
theorem State.Inv.slotsLeft_countSlot (h : s.Inv) (hf : s.phase = .preflush ∨ s.phase = .flush)
    (hcount : u.phase = s.phase ∧ u.fcnt = s.fcnt + 1 ∨ u.phase = .idle ∨ u.phase = .wait) :
    u.slotsLeft < s.slotsLeft := by
  have hlt : s.fcnt.toNat < 20 := h.flushing hf
  rw [slotsLeft_flushing hf]
  rcases hcount with ⟨hp, hfcnt⟩ | hover
  · rw [slotsLeft_flushing (hp ▸ hf), hfcnt, h.fcnt_add_one hf]
    omega
  · rw [slotsLeft_tokenReady hover]
    omega

theorem State.Inv.slotsLeft_advance (h : s.Inv) (hsend : s.sending = true) :
    (Machine.advance s).slotsLeft < s.slotsLeft := by
  cases hp : s.phase with
  | idle | wait => simp [State.sending, hp] at hsend
  | enc => rw [advance_enc hp]; exact h.slotsLeft_encAdvance hp
  | preflush =>
    rw [advance_preflush hp]
    refine h.slotsLeft_countSlot (.inl hp) ?_
    rcases preAdvance_cases s with ⟨-, heq⟩ | ⟨-, heq⟩ <;> rw [heq]
    · exact .inr (.inr rfl)
    · exact .inl ⟨rfl, rfl⟩
  | flush =>
    rw [advance_flush hp]
    refine h.slotsLeft_countSlot (.inr hp) ?_
    rcases flushAdvance_cases s with ⟨-, heq⟩ | ⟨-, heq⟩ <;> rw [heq]
    · exact .inr (.inl rfl)
    · exact .inl ⟨rfl, rfl⟩

theorem startWrite_tokenPort (idleHigh : Bool) (s : State) :
    (startWrite idleHigh s).tokenPort = s.tokenPort := by
  cases idleHigh <;> rfl

/-- A word taken off the port pays for the phase it starts. -/
theorem potential_taken {w : Token} {i : Instr} (ht : s.tokenPort = w :: ws) (hport : u.tokenPort = ws)
    (htrace : u.trace = s.trace ++ [.accept i]) : u.potential ≤ s.potential := by
  have hnew := attemptsLeft_lt u
  have hcount : progressCount u.trace = progressCount s.trace + 1 := by
    rw [htrace, progressCount_concat]; rfl
  simp only [State.potential, State.work, hcount, ht, hport, List.length_cons]
  omega

/-- An attempt pays for itself where the attempts left of the phase do. -/
theorem potential_attempt {e : Event} (hport : u.tokenPort = s.tokenPort)
    (htrace : u.trace = s.trace ++ [e])
    (hleft : (if e.isProgress then 1 else 0) + u.attemptsLeft ≤ s.attemptsLeft) :
    u.potential ≤ s.potential := by
  simp only [State.potential, State.work, htrace, progressCount_concat, hport]
  omega

theorem State.Inv.potential_sendAttempt {b : Byte} (h : s.Inv) (hsend : s.sending = true)
    (hio : s.io = .send) : (Machine.sendAttempt b s).potential ≤ s.potential := by
  obtain ⟨hport, htrace, -⟩ := sendAttempt_ports b s
  have hleft : s.attemptsLeft = 2 * s.slotsLeft + 1 := by rw [State.attemptsLeft, if_pos hio]
  refine potential_attempt hport htrace ?_
  rcases sendAttempt_cases b s with ⟨ha, heq⟩ | ⟨ha, heq⟩ | ⟨e, ha, heq⟩ <;> rw [ha, heq]
  · exact (Nat.zero_add _).le
  · exact (Nat.add_comm 1 _).trans_le hleft.ge
  · have hpos := h.slotsLeft_advance hsend
    have hover : State.attemptsLeft { s.afterSend b with status := .err e, phase := .idle } ≤ 1 := by
      rw [State.attemptsLeft, slotsLeft_tokenReady (.inl rfl)]
      split <;> decide
    have hcount : (Event.send b (.err e)).isProgress = true := rfl
    rw [if_pos hcount]
    omega

theorem State.Inv.potential_recvAttempt (h : s.Inv) (hsend : s.sending = true) :
    (Machine.recvAttempt s).potential ≤ s.potential := by
  obtain ⟨hport, htrace, -⟩ := recvAttempt_ports s
  refine potential_attempt hport htrace ?_
  by_cases ha : s.recvAnswer = .wouldBlock
  · rw [recvAttempt_wouldBlock ha, ha]
    exact (Nat.zero_add _).le
  · have hless : (Machine.advance s.afterRecv).slotsLeft < s.slotsLeft :=
      h.afterRecv.slotsLeft_advance hsend
    rw [recvAttempt_other ha]
    simp only [State.attemptsLeft]
    split <;> split <;> split <;> omega

/-- No step makes more progress than it uses up work. -/
theorem State.Inv.potential_step (h : s.Inv) (hstep : step s = .next t) :
    t.potential ≤ s.potential := by
  rcases step_cases h.bench hstep with ⟨-, -, rfl⟩ | ⟨w, ws, -, ht, -, rfl⟩ |
    ⟨w, ws, r, g, b, -, ht, -, rfl⟩ | ⟨w, ws, -, ht, -, rfl⟩ | ⟨b, hsend, hio, -, rfl⟩ | ⟨hsend, -, rfl⟩
  · exact le_rfl
  · exact potential_taken ht (startWrite_tokenPort _ _) (startWrite_trace _ _)
  · exact potential_taken ht rfl rfl
  · exact potential_taken ht rfl rfl
  · exact h.potential_sendAttempt hsend hio
  · exact h.potential_recvAttempt hsend

/-- In any run there is no more progress than the work there was at first. -/
theorem State.Inv.progressCount_le (h : s.Inv) (hrun : Reaches s k t) :
    progressCount t.trace ≤ s.potential := by
  have hpotential : t.potential ≤ s.potential :=
    (reaches_invariant (P := fun t => t.Inv ∧ t.potential ≤ s.potential)
      (fun _ _ ⟨hinv, hle⟩ hstep =>
        ⟨invariantKept _ _ hinv hstep, (hinv.potential_step hstep).trans hle⟩) ⟨h, le_rfl⟩ hrun).2
  exact (Nat.le_add_right _ _).trans hpotential

/-! ### The rest of a write on the port -/

/-- The tokens of a write after its START (R70). -/
def restOfWrite (cols : List Colour) : List Instr :=
  cols.map (fun c => .color c.1 c.2.1 c.2.2) ++ [.finish]

/-- Before the trailer the port holds the rest of a write, and then `ws`. -/
def Supplied (ws : List Token) (s : State) : Prop :=
  s.phase ≠ .flush → ∃ cols, s.tokenPort = tokenWords (restOfWrite cols) ++ ws

/-- In WAIT the first token of the rest of a write can be taken. -/
theorem takes_restOfWrite (hp : s.phase = .wait) (cols : List Colour) :
    ∃ i is u, restOfWrite cols = i :: is ∧ Takes i s u := by
  cases cols with
  | nil => exact ⟨.finish, [], _, rfl, .finish hp⟩
  | cons c cols => exact ⟨.color c.1 c.2.1 c.2.2, restOfWrite cols, _, rfl, .color hp⟩

/-- A COLOR taken from the rest of a write leaves the rest of a write. -/
theorem restOfWrite_tail {cols : List Colour} {w : Token} {r g b : Byte} {ws' : List Token}
    (ht : w :: ws' = tokenWords (restOfWrite cols) ++ ws) (hd : decodeToken w = .ok (.color r g b)) :
    ∃ cols', ws' = tokenWords (restOfWrite cols') ++ ws := by
  cases cols with
  | cons c cols => exact ⟨cols, (List.cons.inj ht).2⟩
  | nil =>
    have hfinish : decodeToken w = .ok .finish := by rw [(List.cons.inj ht).1]; rfl
    cases hd.symm.trans hfinish

/-- An attempt leaves the trailer only for IDLE, and takes nothing off the port. -/
theorem Supplied.attempt (h : Supplied ws s) (hport : u.tokenPort = s.tokenPort)
    (htrailer : s.phase = .flush → u.phase = .flush ∨ u.phase = .idle) (hidle : u.phase ≠ .idle) :
    Supplied ws u := by
  intro hflush
  rw [hport]
  exact h fun hp => (htrailer hp).elim hflush hidle

theorem sendAttempt_trailer {b : Byte} (hp : s.phase = .flush) :
    (sendAttempt b s).phase = .flush ∨ (sendAttempt b s).phase = .idle := by
  rcases sendAttempt_cases b s with ⟨-, heq⟩ | ⟨-, heq⟩ | ⟨e, -, heq⟩ <;> rw [heq]
  · exact .inl hp
  · exact .inl hp
  · exact .inr rfl

theorem recvAttempt_trailer (hp : s.phase = .flush) :
    (recvAttempt s).phase = .flush ∨ (recvAttempt s).phase = .idle := by
  by_cases ha : s.recvAnswer = .wouldBlock
  · rw [recvAttempt_wouldBlock ha]; exact .inl hp
  · rw [recvAttempt_other ha]; exact advance_trailer (s := s.afterRecv) hp

/-- A step of a write that does not end it leaves the rest of it on the port. -/
theorem Supplied.step (h : Supplied ws s) (hs : s.symPort = none) (hp : s.phase ≠ .idle)
    (hstep : step s = .next t) (hidle : t.phase ≠ .idle) : Supplied ws t := by
  rcases step_cases hs hstep with ⟨-, -, rfl⟩ | ⟨_, _, hstart, -⟩ | ⟨w, ws', r, g, b, hwait, ht, hd, rfl⟩ |
    ⟨_, _, -, -, -, rfl⟩ | ⟨b, -, -, -, rfl⟩ | ⟨-, -, rfl⟩
  · exact h
  · exact absurd hstart hp
  · obtain ⟨cols, hcols⟩ := h (hwait.trans_ne nofun)
    exact fun _ => restOfWrite_tail (ht.symm.trans hcols) hd
  · exact absurd rfl
  · exact h.attempt (sendAttempt_ports b s).1 sendAttempt_trailer hidle
  · exact h.attempt (recvAttempt_ports s).1 recvAttempt_trailer hidle

/-- So does a run that does not reach IDLE. -/
theorem Supplied.of_reaches (h : Supplied ws s) (hs : s.symPort = none)
    (hbusy : ∀ k t, Reaches s k t → t.phase ≠ .idle) (hrun : Reaches s k t) : Supplied ws t := by
  induction k generalizing s with
  | zero => cases hrun; exact h
  | succ k ih =>
    obtain ⟨u, hu, hrest⟩ := reaches_succ_iff.1 hrun
    exact ih (h.step hs (hbusy 0 s (reaches_refl s)) hu (hbusy 1 u (reaches_step hu))) (step_symPort hs hu)
      (fun j v hv => hbusy (j + 1) v (reaches_cons hu hv)) hrest

/-! ### Always more progress, up to IDLE (R203) -/

/-- A transport that is live stays so. -/
theorem TransportLive.of_reaches (h : TransportLive s) (hrun : Reaches s k t) : TransportLive t :=
  fun _ u hu => h _ u (reaches_trans hrun hu)

/-- Where an attempt comes next, one is answered in the end. -/
theorem TransportLive.exists_progress (h : TransportLive s) (hsend : s.sending = true) :
    ∃ j u, Reaches s j u ∧ progressCount s.trace < progressCount u.trace := by
  obtain ⟨j, u, evs, e, hrun, htrace, he⟩ := h 0 s (reaches_refl s) hsend
  have hprogress : e.isProgress = true := by rcases he with he | he <;> simp [Event.isProgress, he]
  refine ⟨j, u, hrun, ?_⟩
  rw [htrace, progressCount_append, progressCount_concat, if_pos hprogress]
  omega

/-- In WAIT a token is taken. -/
theorem Supplied.exists_progress (h : Supplied ws s) (hs : s.symPort = none) (hp : s.phase = .wait) :
    ∃ j u, Reaches s j u ∧ progressCount s.trace < progressCount u.trace := by
  obtain ⟨cols, hcols⟩ := h (hp.trans_ne nofun)
  obtain ⟨i, is, u, hrest, htakes⟩ := takes_restOfWrite hp cols
  rw [hrest] at hcols
  refine ⟨1, _, reaches_step (htakes.step (.refl s) hs hcols), ?_⟩
  have hcount : progressCount (s.trace ++ [.accept i]) = progressCount s.trace + 1 :=
    progressCount_concat _ _
  exact (Nat.lt_succ_self _).trans_eq hcount.symm

/-- A write that never ended would make progress without bound. -/
theorem progress_unbounded (hs : s.symPort = none) (hlive : TransportLive s) (hsup : Supplied ws s)
    (hbusy : ∀ k t, Reaches s k t → t.phase ≠ .idle) (n : Nat) :
    ∃ k t, Reaches s k t ∧ n ≤ progressCount t.trace := by
  induction n with
  | zero => exact ⟨0, s, reaches_refl s, Nat.zero_le _⟩
  | succ n ih =>
    obtain ⟨k, t, hrun, hn⟩ := ih
    have hbench : t.symPort = none := reaches_invariant (fun _ _ => step_symPort) hs hrun
    have hmore : ∃ j u, Reaches t j u ∧ progressCount t.trace < progressCount u.trace := by
      cases hsend : t.sending with
      | true => exact (hlive.of_reaches hrun).exists_progress hsend
      | false =>
        have hwait : t.phase = .wait := by
          have hready := (tokenReady_iff_not_sending t).2 hsend
          simpa [State.tokenReady, hbusy k t hrun] using hready
        exact (hsup.of_reaches hs hbusy hrun).exists_progress hbench hwait
    obtain ⟨j, u, hrest, hlt⟩ := hmore
    exact ⟨k + j, u, reaches_trans hrun hrest, hn.trans_lt hlt⟩

/-- Settles O50: otherwise progress would have no bound, but the work left at first is one. -/
theorem liveWriteEnds : Obligations.LiveWriteEnds := by
  unfold Obligations.LiveWriteEnds
  intro s cols ws hinv hp hlive hport
  by_contra hnever
  have hbusy : ∀ k t, Reaches s k t → t.phase ≠ .idle := fun k t hrun hidle => hnever ⟨k, t, hrun, hidle⟩
  have hsup : Supplied ws s := fun hflush => ⟨cols, hport hflush⟩
  obtain ⟨k, t, hrun, hmany⟩ := progress_unbounded hinv.bench hlive hsup hbusy (s.potential + 1)
  exact absurd (hinv.progressCount_le hrun) (Nat.not_le.2 hmany)

end Sys2Proof.Machine
end

section
/-! PROOFS of what a ready token port does with the word on it, and that a busy phase takes none (R34, R131). -/

namespace Sys2Proof.Machine

variable {s u : State} {i : Instr} {w : Token}

/-! ### A token on a ready port is taken or refused (R131, R139) -/

/-- Taking a token touches no port; the step takes the word off it. -/
theorem Takes.tokenPort (h : Takes i s u) : u.tokenPort = s.tokenPort := by
  cases h with
  | start => cases Config.idleHigh <;> rfl
  | color | finish => rfl

theorem Takes.trace (h : Takes i s u) : u.trace = s.trace := by
  cases h with
  | start => exact startWrite_trace _ s
  | color | finish => rfl

theorem takes_or_refused (hr : s.tokenReady = true) (hd : decodeToken w = .ok i) :
    (∃ u, Takes i s u) ∨ ∃ r, exec i s = .refused r := by
  have hp : s.phase = .idle ∨ s.phase = .wait := by simpa [State.tokenReady] using hr
  rcases hp with hidle | hwait
  · rcases decodeToken_cases hd with rfl | ⟨r, g, b, rfl⟩ | rfl
    · exact .inl ⟨_, .start hidle⟩
    · exact .inr ⟨_, exec_color_idle hidle r g b⟩
    · exact .inr ⟨_, exec_finish_idle hidle⟩
  · rcases decodeToken_cases hd with rfl | ⟨r, g, b, rfl⟩ | rfl
    · exact .inr ⟨_, exec_start_wait hwait⟩
    · exact .inl ⟨_, .color hwait⟩
    · exact .inl ⟨_, .finish hwait⟩

/-- A word first on a ready port is taken and recorded, or refused. -/
theorem step_takes_or_refuses {ws : List Token} (hs : s.symPort = none) (hr : s.tokenReady = true)
    (ht : s.tokenPort = w :: ws) :
    (∃ t i, step s = .next t ∧ decodeToken w = .ok i ∧ t.tokenPort = ws ∧
      t.trace = s.trace ++ [.accept i]) ∨ ∃ r, step s = .refused r := by
  cases hd : decodeToken w with
  | error why => exact .inr ⟨_, step_reserved hs hr ht hd⟩
  | ok i =>
    rw [step_token hs hr ht hd]
    rcases takes_or_refused (s := { s with tokenPort := ws }) hr hd with ⟨u, htakes⟩ | hrefused
    · exact .inl ⟨_, i, htakes.exec, rfl, htakes.tokenPort, by rw [accept_trace, htakes.trace]⟩
    · exact .inr hrefused

/-! ### A busy phase makes an attempt (R100, R101, R130) -/

/-- In a sending phase a step records one attempt and leaves the token port alone. -/
theorem step_sending (hs : s.symPort = none) (hsend : s.sending = true) :
    ∃ t e, step s = .next t ∧ t.tokenPort = s.tokenPort ∧ t.trace = s.trace ++ [e] ∧
      e.token = none := by
  cases hio : s.io with
  | send =>
    obtain ⟨b, hout⟩ := (sending_iff_out s).1 hsend
    obtain ⟨hport, htrace, -⟩ := sendAttempt_ports b s
    exact ⟨_, _, step_send hs hio hout, hport, htrace, rfl⟩
  | recv =>
    obtain ⟨hport, htrace, -⟩ := recvAttempt_ports s
    exact ⟨_, _, step_recv hs hio hsend, hport, htrace, rfl⟩

/-- Settles O14: a busy phase makes an attempt, a ready one takes the word or refuses it, or holds. -/
theorem tokenPortDiscipline : Obligations.TokenPortDiscipline := by
  unfold Obligations.TokenPortDiscipline
  intro s hs
  refine ⟨fun hbusy => ?_, fun w ws hr ht => step_takes_or_refuses hs hr ht, step_hold hs⟩
  have hsend : s.sending = true := by
    rw [← Bool.not_eq_false, ← tokenReady_iff_not_sending, hbusy]
    exact Bool.false_ne_true
  obtain ⟨t, e, hstep, hport, htrace, he⟩ := step_sending hs hsend
  refine ⟨t, hstep, hport, ?_⟩
  rw [htrace, acceptedTokens_append]
  simp [acceptedTokens, he]

/-- Settles O12: only IDLE and WAIT give a token a meaning of its own. -/
theorem tokenHeldInBusyPhase : Obligations.TokenHeldInBusyPhase := by
  unfold Obligations.TokenHeldInBusyPhase
  intro s r g b hsend
  cases hp : s.phase with
  | idle | wait => simp [State.sending, hp] at hsend
  | preflush | enc | flush => simp only [exec, execStart, execColor, execFinish, hp, and_self]

end Sys2Proof.Machine
end

section
/-! PROOFS of what the symbol rows (R77, R78) and the transport-byte rows (R79, R81) do as instructions. -/

namespace Sys2Proof.Machine

/-! ### The symbol rows -/

theorem exec_symbolRow (bit : Bool) (s : State) :
    exec (symbolRow bit) s = .next { s with acc := shiftIn s.acc bit } := by
  cases bit <;> rfl

/-- Settles O15: the two symbols are 1000 and 1100. -/
theorem symbolRowsShiftIn : Obligations.SymbolRowsShiftIn := by
  unfold Obligations.SymbolRowsShiftIn
  exact fun s => ⟨exec_symbolRow false s, exec_symbolRow true s⟩

/-- Four turns of R78's loop lay four nibbles side by side, the first one highest. -/
theorem shiftIn_four (a b c d : Bool) :
    shiftIn (shiftIn (shiftIn (shiftIn 0 a) b) c) d = ((nib a ++ nib b) ++ nib c) ++ nib d := by
  decide +revert

theorem buildAcc_eq_shiftIn (v : Byte) (h : BitVec 1) :
    buildAcc v h = shiftIn (shiftIn (shiftIn (shiftIn 0 (v.getLsbD (7 - 4 * h.toNat)))
      (v.getLsbD (6 - 4 * h.toNat))) (v.getLsbD (5 - 4 * h.toNat))) (v.getLsbD (4 - 4 * h.toNat)) := by
  rcases bit_eq_zero_or_one h with rfl | rfl <;> rfl

/-- Settles O16: both an accumulator and the four rows are four turns of R78's loop. -/
theorem buildAccIsFourSymbols : Obligations.BuildAccIsFourSymbols := by
  unfold Obligations.BuildAccIsFourSymbols
  refine ⟨fun v => ⟨?_, ?_⟩, fun s v h hzero => ?_⟩
  · exact (buildAcc_eq_shiftIn v 0).trans (shiftIn_four ..)
  · exact (buildAcc_eq_shiftIn v 1).trans (shiftIn_four ..)
  · refine ⟨_, _, _, exec_symbolRow .., exec_symbolRow .., exec_symbolRow .., ?_⟩
    rw [exec_symbolRow, buildAcc_eq_shiftIn, hzero]

/-! ### The transport-byte rows -/

theorem exec_byteRow {i : Instr} {b : Byte} (h : (i, b) ∈ byteRows) (s : State) :
    exec i s = sendByte b s := by
  simp only [byteRows, List.mem_cons, List.not_mem_nil, or_false, Prod.mk.injEq] at h
  rcases h with ⟨rfl, rfl⟩ | ⟨rfl, rfl⟩ | ⟨rfl, rfl⟩ | ⟨rfl, rfl⟩ | ⟨rfl, rfl⟩ <;> rfl

/-- Settles O17: each row is the send attempt of its byte, answer by answer where it is enabled. -/
theorem byteRowsSend : Obligations.ByteRowsSend := by
  unfold Obligations.ByteRowsSend
  intro i b s hrow
  rw [exec_byteRow hrow]
  refine ⟨fun hio hout => ?_, sendByte_disabled⟩
  rw [sendByte_enabled hio hout]
  exact ⟨fun ha => congrArg _ (sendAttempt_wouldBlock b ha), fun ha => congrArg _ (sendAttempt_ok b ha),
    fun e ha => congrArg _ (sendAttempt_err b ha)⟩

end Sys2Proof.Machine
end

section
/-! PROOFS of what reset leaves: both invariants (R190), and nothing observed before a START (R191, R192). -/

namespace Sys2Proof.Machine

theorem inv_reset : State.reset.Inv where
  bench := rfl
  busy := by decide
  cidx := by decide
  fcnt := by decide
  flushing := by decide
  preflush := nofun
  chan := nofun
  acc := nofun

theorem portInv_reset : State.reset.PortInv := portInv_of_ready rfl rfl nofun

/-- Settles O31: the fields by definition, and IDLE asks little of the invariants. -/
theorem invariantsAtReset : Obligations.InvariantsAtReset := by
  unfold Obligations.InvariantsAtReset
  exact ⟨rfl, rfl, rfl, inv_reset, portInv_reset⟩

/-- Settles O35: reset leaves IDLE with an empty bench port, and from there no step makes an attempt and
nothing is observed before a START. -/
theorem resetEndsWrite : Obligations.ResetEndsWrite := by
  unfold Obligations.ResetEndsWrite
  intro s
  have hidle : s.hardReset.phase = .idle := hardReset_phase s
  have hbench : s.hardReset.symPort = none := hardReset_symPort s
  exact ⟨hidle, hardReset_status s, hardReset_trace s, hardReset_tokenPort s,
    fun u hstep => attempts_step_idle (s := s.hardReset) hbench hidle hstep,
    fun k u hrun => trace_of_reaches_idle (s := s.hardReset) hbench hidle hrun⟩

end Sys2Proof.Machine
end
